-- ==== Sys2Proof/Word.lean ====
section
/-! DEFINITION. The two data widths of the core (spec/00_scope.md R5): 8-bit registers and memory cells, 16-bit pairs
and addresses. -/

namespace Sys2Proof

/-- An 8-bit value: a register or a memory cell (R5). -/
abbrev Byte := BitVec 8

/-- A 16-bit value: a register pair, SP, PC or an address (R5). -/
abbrev Word := BitVec 16

end Sys2Proof
end

