-- ==== Sys2Proof/Syntax/Fields.lean ====
section
/-! DEFINITION. The field codes of spec/30_encoding.md R56 as named values, and the instruction groups of R55 with
their fields (`Form`). A form is the structured reading of an instruction; the instructions themselves, one per row of
the opcode table, are the one inductive of Sys2Proof/Syntax.lean. -/

namespace Sys2Proof

/-- The r code of R56: a register, or (code 6) the byte at address HL. -/
inductive R8 where
  | b | c | d | e | h | l | atHL | a
deriving DecidableEq, Repr

/-- The rr code of R56: a pair or SP. -/
inductive RR where
  | bc | de | hl | sp
deriving DecidableEq, Repr

/-- The qq code of R56: a pair that PUSH and POP move. -/
inductive QQ where
  | bc | de | hl | af
deriving DecidableEq, Repr

/-- The cc code of R56. -/
inductive Cond where
  | nz | z | nc | c
deriving DecidableEq, Repr

/-- The ALU operation code of R56. -/
inductive AluOp where
  | add | adc | sub | sbc | and | xor | or | cp
deriving DecidableEq, Repr

/-- The CB rotate, shift and swap operation code of R56. -/
inductive CbOp where
  | rlc | rrc | rl | rr | sla | sra | swap | srl
deriving DecidableEq, Repr

/-- The four accumulator rotates (spec/43_rotate_shift_bit.md section 2). -/
inductive AccRot where
  | rlca | rrca | rla | rra
deriving DecidableEq, Repr

/-- The pp code of the indirect A loads (R55): (BC), (DE), (HL+), (HL-). -/
inductive Ind where
  | bc | de | hlInc | hlDec
deriving DecidableEq, Repr

/-- The 11 reserved primary opcodes (R62), named by their opcode. -/
inductive Hole where
  | hD3 | hDB | hDD | hE3 | hE4 | hEB | hEC | hED | hF4 | hFC | hFD
deriving DecidableEq, Repr

/-- The operand kinds of R57. -/
inductive OperandKind where
  | none | imm8 | imm16 | near8 | far16 | rel8
deriving DecidableEq, Repr

/-- The instruction groups of R55 with their fields and operand values. An operand is held as the table's placeholder
says: d8, a8 and e8 as the operand byte itself, d16 and a16 as the 16-bit value. -/
inductive Form where
  | nop
  | ldRR (p : RR) (n : Word)
  | incRR (p : RR)
  | decRR (p : RR)
  | addHL (p : RR)
  | ldIndA (p : Ind)
  | ldAInd (p : Ind)
  | inc (r : R8)
  | dec (r : R8)
  | ldImm (r : R8) (n : Byte)
  | accRot (o : AccRot)
  | daa
  | cpl
  | scf
  | ccf
  | ldFarSP (a : Word)
  | stop (n : Byte)
  | jr (e : Byte)
  | jrCond (k : Cond) (e : Byte)
  | ld (dst src : R8)
  | halt
  | alu (o : AluOp) (r : R8)
  | aluImm (o : AluOp) (n : Byte)
  | retCond (k : Cond)
  | jpCond (k : Cond) (a : Word)
  | callCond (k : Cond) (a : Word)
  | pop (q : QQ)
  | push (q : QQ)
  | rst (t : Fin 8)
  | jp (a : Word)
  | ret
  | reti
  | call (a : Word)
  | prefixCB (op : Byte)
  | ldhStore (n : Byte)
  | ldhLoad (n : Byte)
  | ldCStore
  | ldCLoad
  | ldFarStore (a : Word)
  | ldFarLoad (a : Word)
  | addSP (e : Byte)
  | ldHLSP (e : Byte)
  | jpHL
  | ldSPHL
  | di
  | ei
  | reserved (x : Hole)
  | cb (o : CbOp) (r : R8)
  | bit (i : Fin 8) (r : R8)
  | res (i : Fin 8) (r : R8)
  | set (i : Fin 8) (r : R8)
deriving DecidableEq, Repr

end Sys2Proof
end

