-- ==== Sys2Proof/Syntax.lean ====
section
/-! DEFINITION. The instruction set: one constructor per row of spec/opcode_table.json (512 rows), grouped by the section
file that gives its rule. A constructor is named after its row: the operation, then the operands, `atX` for a memory
operand (X). Operands are the operand bytes and words of the table's placeholders d8, a8, e8, d16 and a16. The rows with
an operand stand first: Lean's compiler bounds the position of a constructor with fields. -/

namespace Sys2Proof

/-- An instruction: a row of the opcode table with its operand values. -/
inductive Instr where
  -- ROWS WITH AN OPERAND
  -- 8-bit ALU, 16-bit add, decimal adjust, flag instructions (spec/42_alu.md)
  | addA_d8 (n : Byte)
  | adcA_d8 (n : Byte)
  | subA_d8 (n : Byte)
  | sbcA_d8 (n : Byte)
  | andA_d8 (n : Byte)
  | xorA_d8 (n : Byte)
  | orA_d8 (n : Byte)
  | cpA_d8 (n : Byte)
  | addSP_e8 (e : Byte)
  -- Loads, stores and stack transfers (spec/44_loads.md)
  | ldB_d8 (n : Byte) | ldC_d8 (n : Byte) | ldD_d8 (n : Byte) | ldE_d8 (n : Byte) | ldH_d8 (n : Byte)
  | ldL_d8 (n : Byte) | ldA_d8 (n : Byte)
  | ldAtHL_d8 (n : Byte)
  | ldhAtA8_A (n : Byte)
  | ldhA_atA8 (n : Byte)
  | ldAtA16_A (a : Word)
  | ldA_atA16 (a : Word)
  | ldBC_d16 (n : Word) | ldDE_d16 (n : Word) | ldHL_d16 (n : Word) | ldSP_d16 (n : Word)
  | ldAtA16_SP (a : Word)
  | ldHL_SPe8 (e : Byte)
  -- Control transfer (spec/45_control.md)
  | jp_a16 (a : Word)
  | jpNZ_a16 (a : Word) | jpZ_a16 (a : Word) | jpNC_a16 (a : Word) | jpC_a16 (a : Word)
  | jr_e8 (e : Byte)
  | jrNZ_e8 (e : Byte) | jrZ_e8 (e : Byte) | jrNC_e8 (e : Byte) | jrC_e8 (e : Byte)
  | call_a16 (a : Word)
  | callNZ_a16 (a : Word) | callZ_a16 (a : Word) | callNC_a16 (a : Word) | callC_a16 (a : Word)
  -- Miscellaneous, unimplemented, reserved, prefix (spec/46_misc.md)
  | stop (n : Byte)
  | prefixCB (op : Byte)
  -- ROWS WITHOUT AN OPERAND
  -- Increment and decrement (spec/41_inc_dec.md)
  | incB | incC | incD | incE | incH | incL | incA
  | incAtHL
  | decB | decC | decD | decE | decH | decL | decA
  | decAtHL
  | incBC | incDE | incHL | incSP
  | decBC | decDE | decHL | decSP
  -- 8-bit ALU, 16-bit add, decimal adjust, flag instructions (spec/42_alu.md)
  | addA_B | addA_C | addA_D | addA_E | addA_H | addA_L | addA_atHL | addA_A
  | adcA_B | adcA_C | adcA_D | adcA_E | adcA_H | adcA_L | adcA_atHL | adcA_A
  | subA_B | subA_C | subA_D | subA_E | subA_H | subA_L | subA_atHL | subA_A
  | sbcA_B | sbcA_C | sbcA_D | sbcA_E | sbcA_H | sbcA_L | sbcA_atHL | sbcA_A
  | andA_B | andA_C | andA_D | andA_E | andA_H | andA_L | andA_atHL | andA_A
  | xorA_B | xorA_C | xorA_D | xorA_E | xorA_H | xorA_L | xorA_atHL | xorA_A
  | orA_B | orA_C | orA_D | orA_E | orA_H | orA_L | orA_atHL | orA_A
  | cpA_B | cpA_C | cpA_D | cpA_E | cpA_H | cpA_L | cpA_atHL | cpA_A
  | addHL_BC | addHL_DE | addHL_HL | addHL_SP
  | daa
  | cpl
  | scf
  | ccf
  -- Rotates, shifts and SWAP (spec/43_rotate_shift_bit.md)
  | rlca
  | rla
  | rrca
  | rra
  | rlc_B | rlc_C | rlc_D | rlc_E | rlc_H | rlc_L | rlc_A
  | rlc_atHL
  | rrc_B | rrc_C | rrc_D | rrc_E | rrc_H | rrc_L | rrc_A
  | rrc_atHL
  | rl_B | rl_C | rl_D | rl_E | rl_H | rl_L | rl_A
  | rl_atHL
  | rr_B | rr_C | rr_D | rr_E | rr_H | rr_L | rr_A
  | rr_atHL
  | sla_B | sla_C | sla_D | sla_E | sla_H | sla_L | sla_A
  | sla_atHL
  | sra_B | sra_C | sra_D | sra_E | sra_H | sra_L | sra_A
  | sra_atHL
  | srl_B | srl_C | srl_D | srl_E | srl_H | srl_L | srl_A
  | srl_atHL
  | swap_B | swap_C | swap_D | swap_E | swap_H | swap_L | swap_A
  | swap_atHL
  -- Single-bit instructions (spec/43_rotate_shift_bit.md section 5)
  | bit0_B | bit0_C | bit0_D | bit0_E | bit0_H | bit0_L | bit0_A | bit1_B | bit1_C | bit1_D | bit1_E | bit1_H
  | bit1_L | bit1_A | bit2_B | bit2_C | bit2_D | bit2_E | bit2_H | bit2_L | bit2_A | bit3_B | bit3_C | bit3_D
  | bit3_E | bit3_H | bit3_L | bit3_A | bit4_B | bit4_C | bit4_D | bit4_E | bit4_H | bit4_L | bit4_A | bit5_B
  | bit5_C | bit5_D | bit5_E | bit5_H | bit5_L | bit5_A | bit6_B | bit6_C | bit6_D | bit6_E | bit6_H | bit6_L
  | bit6_A | bit7_B | bit7_C | bit7_D | bit7_E | bit7_H | bit7_L | bit7_A
  | bit0_atHL | bit1_atHL | bit2_atHL | bit3_atHL | bit4_atHL | bit5_atHL | bit6_atHL | bit7_atHL
  | res0_B | res0_C | res0_D | res0_E | res0_H | res0_L | res0_A | res1_B | res1_C | res1_D | res1_E | res1_H
  | res1_L | res1_A | res2_B | res2_C | res2_D | res2_E | res2_H | res2_L | res2_A | res3_B | res3_C | res3_D
  | res3_E | res3_H | res3_L | res3_A | res4_B | res4_C | res4_D | res4_E | res4_H | res4_L | res4_A | res5_B
  | res5_C | res5_D | res5_E | res5_H | res5_L | res5_A | res6_B | res6_C | res6_D | res6_E | res6_H | res6_L
  | res6_A | res7_B | res7_C | res7_D | res7_E | res7_H | res7_L | res7_A
  | res0_atHL | res1_atHL | res2_atHL | res3_atHL | res4_atHL | res5_atHL | res6_atHL | res7_atHL
  | set0_B | set0_C | set0_D | set0_E | set0_H | set0_L | set0_A | set1_B | set1_C | set1_D | set1_E | set1_H
  | set1_L | set1_A | set2_B | set2_C | set2_D | set2_E | set2_H | set2_L | set2_A | set3_B | set3_C | set3_D
  | set3_E | set3_H | set3_L | set3_A | set4_B | set4_C | set4_D | set4_E | set4_H | set4_L | set4_A | set5_B
  | set5_C | set5_D | set5_E | set5_H | set5_L | set5_A | set6_B | set6_C | set6_D | set6_E | set6_H | set6_L
  | set6_A | set7_B | set7_C | set7_D | set7_E | set7_H | set7_L | set7_A
  | set0_atHL | set1_atHL | set2_atHL | set3_atHL | set4_atHL | set5_atHL | set6_atHL | set7_atHL
  -- Loads, stores and stack transfers (spec/44_loads.md)
  | ldB_B | ldB_C | ldB_D | ldB_E | ldB_H | ldB_L | ldB_A | ldC_B | ldC_C | ldC_D | ldC_E | ldC_H | ldC_L
  | ldC_A | ldD_B | ldD_C | ldD_D | ldD_E | ldD_H | ldD_L | ldD_A | ldE_B | ldE_C | ldE_D | ldE_E | ldE_H
  | ldE_L | ldE_A | ldH_B | ldH_C | ldH_D | ldH_E | ldH_H | ldH_L | ldH_A | ldL_B | ldL_C | ldL_D | ldL_E
  | ldL_H | ldL_L | ldL_A | ldA_B | ldA_C | ldA_D | ldA_E | ldA_H | ldA_L | ldA_A
  | ldB_atHL | ldC_atHL | ldD_atHL | ldE_atHL | ldH_atHL | ldL_atHL | ldA_atHL
  | ldAtHL_B | ldAtHL_C | ldAtHL_D | ldAtHL_E | ldAtHL_H | ldAtHL_L | ldAtHL_A
  | ldAtBC_A | ldAtDE_A
  | ldA_atBC | ldA_atDE
  | ldAtHLinc_A
  | ldA_atHLinc
  | ldAtHLdec_A
  | ldA_atHLdec
  | ldAtC_A
  | ldA_atC
  | ldSP_HL
  | pushBC | pushDE | pushHL | pushAF
  | popBC | popDE | popHL | popAF
  -- Control transfer (spec/45_control.md)
  | jpHL
  | ret
  | retNZ | retZ | retNC | retC
  | reti
  | rst00H | rst08H | rst10H | rst18H | rst20H | rst28H | rst30H | rst38H
  -- Miscellaneous, unimplemented, reserved, prefix (spec/46_misc.md)
  | nop
  | halt
  | di
  | ei
  | reservedD3H | reservedDBH | reservedDDH | reservedE3H | reservedE4H | reservedEBH | reservedECH
  | reservedEDH | reservedF4H | reservedFCH | reservedFDH
deriving DecidableEq, Repr

end Sys2Proof
end

