-- ==== Sys2Proof/WellFormed.lean ====
section
/-! DEFINITION. Well-formed instructions: the terms of `Instr` that are an instruction of the core. Every operand of
every row may hold any value (spec/30_encoding.md R57). The one row that is no instruction is the prefix: "Primary
opcode 0xCB is not an instruction" (R64). Its bytes are the selected CB instruction's, and the decoder answers that
instruction, never the prefix row (log entry 4). -/

namespace Sys2Proof

/-- R64: every row but the prefix is an instruction. -/
def Instr.wf : Instr → Bool
  | .prefixCB _ => false
  | _ => true

end Sys2Proof
end

