-- ==== Sys2Proof/Decode.lean ====
section
/-! DEFINITION. Decoding (spec/30_encoding.md). The decoder splits the opcode into the fields of R55, reads them by the
codes of R56 into a `Form`, and names the form's row (`instrOf`). The encoder is written the other way round, from the
opcode maps of R59 and R60, one literal per row, so that their round trip checks the two readings of the spec against
each other. -/

namespace Sys2Proof

/-! ## Byte order (R6, R41, R57) -/

/-- `hi ++ lo` of R6. -/
def joinBytes (hi lo : Byte) : Word := hi ++ lo

/-- Bits 15..8 of a word (R6). -/
def hiByte (w : Word) : Byte := w.extractLsb' 8 8

/-- Bits 7..0 of a word (R6). -/
def loByte (w : Word) : Byte := w.extractLsb' 0 8

/-! ## The fields of an opcode byte (R55) -/

/-- `x = op[7:6]`. -/
def fieldX (op : Byte) : Fin 4 := (op.extractLsb' 6 2).toFin

/-- `y = op[5:3]`. -/
def fieldY (op : Byte) : Fin 8 := (op.extractLsb' 3 3).toFin

/-- `z = op[2:0]`. -/
def fieldZ (op : Byte) : Fin 8 := (op.extractLsb' 0 3).toFin

/-- `p = op[5:4]`. -/
def fieldP (op : Byte) : Fin 4 := (op.extractLsb' 4 2).toFin

/-- `q = op[3]`. -/
def fieldQ (op : Byte) : Bool := op.getLsbD 3

/-- The cc field of the conditional instructions: `op[4:3]` (R55, R143). -/
def fieldCC (op : Byte) : Fin 4 := (op.extractLsb' 3 2).toFin

/-! ## The field codes (R56) -/

/-- The r code. -/
def r8OfCode : Fin 8 → R8
  | 0 => .b | 1 => .c | 2 => .d | 3 => .e | 4 => .h | 5 => .l | 6 => .atHL | 7 => .a

/-- The rr code. -/
def rrOfCode : Fin 4 → RR
  | 0 => .bc | 1 => .de | 2 => .hl | 3 => .sp

/-- The qq code. -/
def qqOfCode : Fin 4 → QQ
  | 0 => .bc | 1 => .de | 2 => .hl | 3 => .af

/-- The cc code. -/
def condOfCode : Fin 4 → Cond
  | 0 => .nz | 1 => .z | 2 => .nc | 3 => .c

/-- The ALU operation code. -/
def aluOfCode : Fin 8 → AluOp
  | 0 => .add | 1 => .adc | 2 => .sub | 3 => .sbc | 4 => .and | 5 => .xor | 6 => .or | 7 => .cp

/-- The CB operation code. -/
def cbOfCode : Fin 8 → CbOp
  | 0 => .rlc | 1 => .rrc | 2 => .rl | 3 => .rr | 4 => .sla | 5 => .sra | 6 => .swap | 7 => .srl

/-- The pp code of the indirect A loads (R55). -/
def indOfCode : Fin 4 → Ind
  | 0 => .bc | 1 => .de | 2 => .hlInc | 3 => .hlDec

/-! ## From the fields to a form -/

/-- The first quarter of the primary table, op[7:6] = 0 (R55, R59). `b1` and `w` are the operand byte and word. -/
def formX0 (op b1 : Byte) (w : Word) : Form :=
  match fieldZ op with
  | 0 =>
    match fieldY op with
    | 0 => .nop
    | 1 => .ldFarSP w
    | 2 => .stop b1
    | 3 => .jr b1
    | 4 | 5 | 6 | 7 => .jrCond (condOfCode (fieldCC op)) b1
  | 1 => if fieldQ op then .addHL (rrOfCode (fieldP op)) else .ldRR (rrOfCode (fieldP op)) w
  | 2 => if fieldQ op then .ldAInd (indOfCode (fieldP op)) else .ldIndA (indOfCode (fieldP op))
  | 3 => if fieldQ op then .decRR (rrOfCode (fieldP op)) else .incRR (rrOfCode (fieldP op))
  | 4 => .inc (r8OfCode (fieldY op))
  | 5 => .dec (r8OfCode (fieldY op))
  | 6 => .ldImm (r8OfCode (fieldY op)) b1
  | 7 =>
    match fieldY op with
    | 0 => .accRot .rlca
    | 1 => .accRot .rrca
    | 2 => .accRot .rla
    | 3 => .accRot .rra
    | 4 => .daa
    | 5 => .cpl
    | 6 => .scf
    | 7 => .ccf

/-- The second quarter, op[7:6] = 1: LD r,r' with HALT in the place of LD (HL),(HL) (R55, R159). -/
def formX1 (op : Byte) : Form :=
  match r8OfCode (fieldY op), r8OfCode (fieldZ op) with
  | .atHL, .atHL => .halt
  | dst, src => .ld dst src

/-- The fourth quarter, op[7:6] = 3 (R55, R59, R62). For 0xCB, `b1` is the CB opcode (R64). -/
def formX3 (op b1 : Byte) (w : Word) : Form :=
  match fieldZ op with
  | 0 =>
    match fieldY op with
    | 0 | 1 | 2 | 3 => .retCond (condOfCode (fieldCC op))
    | 4 => .ldhStore b1
    | 5 => .addSP b1
    | 6 => .ldhLoad b1
    | 7 => .ldHLSP b1
  | 1 =>
    if fieldQ op then
      match fieldP op with
      | 0 => .ret
      | 1 => .reti
      | 2 => .jpHL
      | 3 => .ldSPHL
    else .pop (qqOfCode (fieldP op))
  | 2 =>
    match fieldY op with
    | 0 | 1 | 2 | 3 => .jpCond (condOfCode (fieldCC op)) w
    | 4 => .ldCStore
    | 5 => .ldFarStore w
    | 6 => .ldCLoad
    | 7 => .ldFarLoad w
  | 3 =>
    match fieldY op with
    | 0 => .jp w
    | 1 => .prefixCB b1
    | 2 => .reserved .hD3
    | 3 => .reserved .hDB
    | 4 => .reserved .hE3
    | 5 => .reserved .hEB
    | 6 => .di
    | 7 => .ei
  | 4 =>
    match fieldY op with
    | 0 | 1 | 2 | 3 => .callCond (condOfCode (fieldCC op)) w
    | 4 => .reserved .hE4
    | 5 => .reserved .hEC
    | 6 => .reserved .hF4
    | 7 => .reserved .hFC
  | 5 =>
    if fieldQ op then
      match fieldP op with
      | 0 => .call w
      | 1 => .reserved .hDD
      | 2 => .reserved .hED
      | 3 => .reserved .hFD
    else .push (qqOfCode (fieldP op))
  | 6 => .aluImm (aluOfCode (fieldY op)) b1
  | 7 => .rst (fieldY op)

/-- The primary table entry of an opcode, with its operand read from the bytes after it (R57, R59). -/
def primaryForm (op b1 b2 : Byte) : Form :=
  match fieldX op with
  | 0 => formX0 op b1 (joinBytes b2 b1)
  | 1 => formX1 op
  | 2 => .alu (aluOfCode (fieldY op)) (r8OfCode (fieldZ op))
  | 3 => formX3 op b1 (joinBytes b2 b1)

/-- The CB table entry of a second opcode byte (R60). -/
def cbForm (op : Byte) : Form :=
  match fieldX op with
  | 0 => .cb (cbOfCode (fieldY op)) (r8OfCode (fieldZ op))
  | 1 => .bit (fieldY op) (r8OfCode (fieldZ op))
  | 2 => .res (fieldY op) (r8OfCode (fieldZ op))
  | 3 => .set (fieldY op) (r8OfCode (fieldZ op))

/-- The form that three bytes begin with: 0xCB consults the secondary table with the next byte (R64). -/
def decodeForm (op b1 b2 : Byte) : Form :=
  match primaryForm op b1 b2 with
  | .prefixCB cbop => cbForm cbop
  | f => f

/-! ## Operand kinds and lengths (R54, R57) -/

/-- The operand kind of a primary entry (R57). -/
def Form.kind : Form → OperandKind
  | .ldImm _ _ | .aluImm _ _ | .stop _ => .imm8
  | .ldRR _ _ | .jp _ | .jpCond _ _ | .call _ | .callCond _ _ => .imm16
  | .ldhStore _ | .ldhLoad _ => .near8
  | .ldFarSP _ | .ldFarStore _ | .ldFarLoad _ => .far16
  | .jr _ | .jrCond _ _ | .addSP _ | .ldHLSP _ => .rel8
  | .nop | .incRR _ | .decRR _ | .addHL _ | .ldIndA _ | .ldAInd _ | .inc _ | .dec _ | .accRot _ | .daa | .cpl | .scf
  | .ccf | .ld _ _ | .halt | .alu _ _ | .retCond _ | .pop _ | .push _ | .rst _ | .ret | .reti | .prefixCB _ | .ldCStore
  | .ldCLoad | .jpHL | .ldSPHL | .di | .ei | .reserved _ | .cb _ _ | .bit _ _ | .res _ _ | .set _ _ => .none

/-- How many operand bytes a kind has (R57). -/
def OperandKind.bytes : OperandKind → Nat
  | .none => 0
  | .imm8 | .near8 | .rel8 => 1
  | .imm16 | .far16 => 2

/-- The operand kind of the primary entry at an opcode (R57). -/
def operandKind (op : Byte) : OperandKind := (primaryForm op 0 0).kind

/-- An instruction's length, from its first byte alone (R54). -/
def instrLength (op : Byte) : Nat :=
  if op = 0xCB then 2 else 1 + (operandKind op).bytes

/-! ## The row of a form -/

/-- LD r,r'; the place of LD (HL),(HL) is HALT (R159). -/
def ldInstr : R8 → R8 → Instr
  | .b, .b => .ldB_B
  | .b, .c => .ldB_C
  | .b, .d => .ldB_D
  | .b, .e => .ldB_E
  | .b, .h => .ldB_H
  | .b, .l => .ldB_L
  | .b, .atHL => .ldB_atHL
  | .b, .a => .ldB_A
  | .c, .b => .ldC_B
  | .c, .c => .ldC_C
  | .c, .d => .ldC_D
  | .c, .e => .ldC_E
  | .c, .h => .ldC_H
  | .c, .l => .ldC_L
  | .c, .atHL => .ldC_atHL
  | .c, .a => .ldC_A
  | .d, .b => .ldD_B
  | .d, .c => .ldD_C
  | .d, .d => .ldD_D
  | .d, .e => .ldD_E
  | .d, .h => .ldD_H
  | .d, .l => .ldD_L
  | .d, .atHL => .ldD_atHL
  | .d, .a => .ldD_A
  | .e, .b => .ldE_B
  | .e, .c => .ldE_C
  | .e, .d => .ldE_D
  | .e, .e => .ldE_E
  | .e, .h => .ldE_H
  | .e, .l => .ldE_L
  | .e, .atHL => .ldE_atHL
  | .e, .a => .ldE_A
  | .h, .b => .ldH_B
  | .h, .c => .ldH_C
  | .h, .d => .ldH_D
  | .h, .e => .ldH_E
  | .h, .h => .ldH_H
  | .h, .l => .ldH_L
  | .h, .atHL => .ldH_atHL
  | .h, .a => .ldH_A
  | .l, .b => .ldL_B
  | .l, .c => .ldL_C
  | .l, .d => .ldL_D
  | .l, .e => .ldL_E
  | .l, .h => .ldL_H
  | .l, .l => .ldL_L
  | .l, .atHL => .ldL_atHL
  | .l, .a => .ldL_A
  | .atHL, .b => .ldAtHL_B
  | .atHL, .c => .ldAtHL_C
  | .atHL, .d => .ldAtHL_D
  | .atHL, .e => .ldAtHL_E
  | .atHL, .h => .ldAtHL_H
  | .atHL, .l => .ldAtHL_L
  | .atHL, .a => .ldAtHL_A
  | .a, .b => .ldA_B
  | .a, .c => .ldA_C
  | .a, .d => .ldA_D
  | .a, .e => .ldA_E
  | .a, .h => .ldA_H
  | .a, .l => .ldA_L
  | .a, .atHL => .ldA_atHL
  | .a, .a => .ldA_A
  | .atHL, .atHL => .halt

/-- ALU A,r and ALU A,(HL). -/
def aluInstr : AluOp → R8 → Instr
  | .add, .b => .addA_B
  | .add, .c => .addA_C
  | .add, .d => .addA_D
  | .add, .e => .addA_E
  | .add, .h => .addA_H
  | .add, .l => .addA_L
  | .add, .atHL => .addA_atHL
  | .add, .a => .addA_A
  | .adc, .b => .adcA_B
  | .adc, .c => .adcA_C
  | .adc, .d => .adcA_D
  | .adc, .e => .adcA_E
  | .adc, .h => .adcA_H
  | .adc, .l => .adcA_L
  | .adc, .atHL => .adcA_atHL
  | .adc, .a => .adcA_A
  | .sub, .b => .subA_B
  | .sub, .c => .subA_C
  | .sub, .d => .subA_D
  | .sub, .e => .subA_E
  | .sub, .h => .subA_H
  | .sub, .l => .subA_L
  | .sub, .atHL => .subA_atHL
  | .sub, .a => .subA_A
  | .sbc, .b => .sbcA_B
  | .sbc, .c => .sbcA_C
  | .sbc, .d => .sbcA_D
  | .sbc, .e => .sbcA_E
  | .sbc, .h => .sbcA_H
  | .sbc, .l => .sbcA_L
  | .sbc, .atHL => .sbcA_atHL
  | .sbc, .a => .sbcA_A
  | .and, .b => .andA_B
  | .and, .c => .andA_C
  | .and, .d => .andA_D
  | .and, .e => .andA_E
  | .and, .h => .andA_H
  | .and, .l => .andA_L
  | .and, .atHL => .andA_atHL
  | .and, .a => .andA_A
  | .xor, .b => .xorA_B
  | .xor, .c => .xorA_C
  | .xor, .d => .xorA_D
  | .xor, .e => .xorA_E
  | .xor, .h => .xorA_H
  | .xor, .l => .xorA_L
  | .xor, .atHL => .xorA_atHL
  | .xor, .a => .xorA_A
  | .or, .b => .orA_B
  | .or, .c => .orA_C
  | .or, .d => .orA_D
  | .or, .e => .orA_E
  | .or, .h => .orA_H
  | .or, .l => .orA_L
  | .or, .atHL => .orA_atHL
  | .or, .a => .orA_A
  | .cp, .b => .cpA_B
  | .cp, .c => .cpA_C
  | .cp, .d => .cpA_D
  | .cp, .e => .cpA_E
  | .cp, .h => .cpA_H
  | .cp, .l => .cpA_L
  | .cp, .atHL => .cpA_atHL
  | .cp, .a => .cpA_A

/-- ALU A,d8. -/
def aluImmInstr (o : AluOp) (n : Byte) : Instr :=
  match o with
  | .add => .addA_d8 n
  | .adc => .adcA_d8 n
  | .sub => .subA_d8 n
  | .sbc => .sbcA_d8 n
  | .and => .andA_d8 n
  | .xor => .xorA_d8 n
  | .or => .orA_d8 n
  | .cp => .cpA_d8 n

/-- CB rotates, shifts and SWAP. -/
def cbInstr : CbOp → R8 → Instr
  | .rlc, .b => .rlc_B
  | .rlc, .c => .rlc_C
  | .rlc, .d => .rlc_D
  | .rlc, .e => .rlc_E
  | .rlc, .h => .rlc_H
  | .rlc, .l => .rlc_L
  | .rlc, .atHL => .rlc_atHL
  | .rlc, .a => .rlc_A
  | .rrc, .b => .rrc_B
  | .rrc, .c => .rrc_C
  | .rrc, .d => .rrc_D
  | .rrc, .e => .rrc_E
  | .rrc, .h => .rrc_H
  | .rrc, .l => .rrc_L
  | .rrc, .atHL => .rrc_atHL
  | .rrc, .a => .rrc_A
  | .rl, .b => .rl_B
  | .rl, .c => .rl_C
  | .rl, .d => .rl_D
  | .rl, .e => .rl_E
  | .rl, .h => .rl_H
  | .rl, .l => .rl_L
  | .rl, .atHL => .rl_atHL
  | .rl, .a => .rl_A
  | .rr, .b => .rr_B
  | .rr, .c => .rr_C
  | .rr, .d => .rr_D
  | .rr, .e => .rr_E
  | .rr, .h => .rr_H
  | .rr, .l => .rr_L
  | .rr, .atHL => .rr_atHL
  | .rr, .a => .rr_A
  | .sla, .b => .sla_B
  | .sla, .c => .sla_C
  | .sla, .d => .sla_D
  | .sla, .e => .sla_E
  | .sla, .h => .sla_H
  | .sla, .l => .sla_L
  | .sla, .atHL => .sla_atHL
  | .sla, .a => .sla_A
  | .sra, .b => .sra_B
  | .sra, .c => .sra_C
  | .sra, .d => .sra_D
  | .sra, .e => .sra_E
  | .sra, .h => .sra_H
  | .sra, .l => .sra_L
  | .sra, .atHL => .sra_atHL
  | .sra, .a => .sra_A
  | .swap, .b => .swap_B
  | .swap, .c => .swap_C
  | .swap, .d => .swap_D
  | .swap, .e => .swap_E
  | .swap, .h => .swap_H
  | .swap, .l => .swap_L
  | .swap, .atHL => .swap_atHL
  | .swap, .a => .swap_A
  | .srl, .b => .srl_B
  | .srl, .c => .srl_C
  | .srl, .d => .srl_D
  | .srl, .e => .srl_E
  | .srl, .h => .srl_H
  | .srl, .l => .srl_L
  | .srl, .atHL => .srl_atHL
  | .srl, .a => .srl_A

/-- BIT b,r and BIT b,(HL). -/
def bitInstr : Fin 8 → R8 → Instr
  | 0, .b => .bit0_B
  | 0, .c => .bit0_C
  | 0, .d => .bit0_D
  | 0, .e => .bit0_E
  | 0, .h => .bit0_H
  | 0, .l => .bit0_L
  | 0, .atHL => .bit0_atHL
  | 0, .a => .bit0_A
  | 1, .b => .bit1_B
  | 1, .c => .bit1_C
  | 1, .d => .bit1_D
  | 1, .e => .bit1_E
  | 1, .h => .bit1_H
  | 1, .l => .bit1_L
  | 1, .atHL => .bit1_atHL
  | 1, .a => .bit1_A
  | 2, .b => .bit2_B
  | 2, .c => .bit2_C
  | 2, .d => .bit2_D
  | 2, .e => .bit2_E
  | 2, .h => .bit2_H
  | 2, .l => .bit2_L
  | 2, .atHL => .bit2_atHL
  | 2, .a => .bit2_A
  | 3, .b => .bit3_B
  | 3, .c => .bit3_C
  | 3, .d => .bit3_D
  | 3, .e => .bit3_E
  | 3, .h => .bit3_H
  | 3, .l => .bit3_L
  | 3, .atHL => .bit3_atHL
  | 3, .a => .bit3_A
  | 4, .b => .bit4_B
  | 4, .c => .bit4_C
  | 4, .d => .bit4_D
  | 4, .e => .bit4_E
  | 4, .h => .bit4_H
  | 4, .l => .bit4_L
  | 4, .atHL => .bit4_atHL
  | 4, .a => .bit4_A
  | 5, .b => .bit5_B
  | 5, .c => .bit5_C
  | 5, .d => .bit5_D
  | 5, .e => .bit5_E
  | 5, .h => .bit5_H
  | 5, .l => .bit5_L
  | 5, .atHL => .bit5_atHL
  | 5, .a => .bit5_A
  | 6, .b => .bit6_B
  | 6, .c => .bit6_C
  | 6, .d => .bit6_D
  | 6, .e => .bit6_E
  | 6, .h => .bit6_H
  | 6, .l => .bit6_L
  | 6, .atHL => .bit6_atHL
  | 6, .a => .bit6_A
  | 7, .b => .bit7_B
  | 7, .c => .bit7_C
  | 7, .d => .bit7_D
  | 7, .e => .bit7_E
  | 7, .h => .bit7_H
  | 7, .l => .bit7_L
  | 7, .atHL => .bit7_atHL
  | 7, .a => .bit7_A

/-- RES b,r and RES b,(HL). -/
def resInstr : Fin 8 → R8 → Instr
  | 0, .b => .res0_B
  | 0, .c => .res0_C
  | 0, .d => .res0_D
  | 0, .e => .res0_E
  | 0, .h => .res0_H
  | 0, .l => .res0_L
  | 0, .atHL => .res0_atHL
  | 0, .a => .res0_A
  | 1, .b => .res1_B
  | 1, .c => .res1_C
  | 1, .d => .res1_D
  | 1, .e => .res1_E
  | 1, .h => .res1_H
  | 1, .l => .res1_L
  | 1, .atHL => .res1_atHL
  | 1, .a => .res1_A
  | 2, .b => .res2_B
  | 2, .c => .res2_C
  | 2, .d => .res2_D
  | 2, .e => .res2_E
  | 2, .h => .res2_H
  | 2, .l => .res2_L
  | 2, .atHL => .res2_atHL
  | 2, .a => .res2_A
  | 3, .b => .res3_B
  | 3, .c => .res3_C
  | 3, .d => .res3_D
  | 3, .e => .res3_E
  | 3, .h => .res3_H
  | 3, .l => .res3_L
  | 3, .atHL => .res3_atHL
  | 3, .a => .res3_A
  | 4, .b => .res4_B
  | 4, .c => .res4_C
  | 4, .d => .res4_D
  | 4, .e => .res4_E
  | 4, .h => .res4_H
  | 4, .l => .res4_L
  | 4, .atHL => .res4_atHL
  | 4, .a => .res4_A
  | 5, .b => .res5_B
  | 5, .c => .res5_C
  | 5, .d => .res5_D
  | 5, .e => .res5_E
  | 5, .h => .res5_H
  | 5, .l => .res5_L
  | 5, .atHL => .res5_atHL
  | 5, .a => .res5_A
  | 6, .b => .res6_B
  | 6, .c => .res6_C
  | 6, .d => .res6_D
  | 6, .e => .res6_E
  | 6, .h => .res6_H
  | 6, .l => .res6_L
  | 6, .atHL => .res6_atHL
  | 6, .a => .res6_A
  | 7, .b => .res7_B
  | 7, .c => .res7_C
  | 7, .d => .res7_D
  | 7, .e => .res7_E
  | 7, .h => .res7_H
  | 7, .l => .res7_L
  | 7, .atHL => .res7_atHL
  | 7, .a => .res7_A

/-- SET b,r and SET b,(HL). -/
def setInstr : Fin 8 → R8 → Instr
  | 0, .b => .set0_B
  | 0, .c => .set0_C
  | 0, .d => .set0_D
  | 0, .e => .set0_E
  | 0, .h => .set0_H
  | 0, .l => .set0_L
  | 0, .atHL => .set0_atHL
  | 0, .a => .set0_A
  | 1, .b => .set1_B
  | 1, .c => .set1_C
  | 1, .d => .set1_D
  | 1, .e => .set1_E
  | 1, .h => .set1_H
  | 1, .l => .set1_L
  | 1, .atHL => .set1_atHL
  | 1, .a => .set1_A
  | 2, .b => .set2_B
  | 2, .c => .set2_C
  | 2, .d => .set2_D
  | 2, .e => .set2_E
  | 2, .h => .set2_H
  | 2, .l => .set2_L
  | 2, .atHL => .set2_atHL
  | 2, .a => .set2_A
  | 3, .b => .set3_B
  | 3, .c => .set3_C
  | 3, .d => .set3_D
  | 3, .e => .set3_E
  | 3, .h => .set3_H
  | 3, .l => .set3_L
  | 3, .atHL => .set3_atHL
  | 3, .a => .set3_A
  | 4, .b => .set4_B
  | 4, .c => .set4_C
  | 4, .d => .set4_D
  | 4, .e => .set4_E
  | 4, .h => .set4_H
  | 4, .l => .set4_L
  | 4, .atHL => .set4_atHL
  | 4, .a => .set4_A
  | 5, .b => .set5_B
  | 5, .c => .set5_C
  | 5, .d => .set5_D
  | 5, .e => .set5_E
  | 5, .h => .set5_H
  | 5, .l => .set5_L
  | 5, .atHL => .set5_atHL
  | 5, .a => .set5_A
  | 6, .b => .set6_B
  | 6, .c => .set6_C
  | 6, .d => .set6_D
  | 6, .e => .set6_E
  | 6, .h => .set6_H
  | 6, .l => .set6_L
  | 6, .atHL => .set6_atHL
  | 6, .a => .set6_A
  | 7, .b => .set7_B
  | 7, .c => .set7_C
  | 7, .d => .set7_D
  | 7, .e => .set7_E
  | 7, .h => .set7_H
  | 7, .l => .set7_L
  | 7, .atHL => .set7_atHL
  | 7, .a => .set7_A

/-- INC r and INC (HL). -/
def incInstr : R8 → Instr
  | .b => .incB
  | .c => .incC
  | .d => .incD
  | .e => .incE
  | .h => .incH
  | .l => .incL
  | .atHL => .incAtHL
  | .a => .incA

/-- DEC r and DEC (HL). -/
def decInstr : R8 → Instr
  | .b => .decB
  | .c => .decC
  | .d => .decD
  | .e => .decE
  | .h => .decH
  | .l => .decL
  | .atHL => .decAtHL
  | .a => .decA

/-- LD r,d8 and LD (HL),d8. -/
def ldImmInstr (r : R8) (n : Byte) : Instr :=
  match r with
  | .b => .ldB_d8 n
  | .c => .ldC_d8 n
  | .d => .ldD_d8 n
  | .e => .ldE_d8 n
  | .h => .ldH_d8 n
  | .l => .ldL_d8 n
  | .atHL => .ldAtHL_d8 n
  | .a => .ldA_d8 n

/-- LD rr,d16. -/
def ldRRInstr (p : RR) (n : Word) : Instr :=
  match p with
  | .bc => .ldBC_d16 n
  | .de => .ldDE_d16 n
  | .hl => .ldHL_d16 n
  | .sp => .ldSP_d16 n

/-- INC rr. -/
def incRRInstr : RR → Instr
  | .bc => .incBC
  | .de => .incDE
  | .hl => .incHL
  | .sp => .incSP

/-- DEC rr. -/
def decRRInstr : RR → Instr
  | .bc => .decBC
  | .de => .decDE
  | .hl => .decHL
  | .sp => .decSP

/-- ADD HL,rr. -/
def addHLInstr : RR → Instr
  | .bc => .addHL_BC
  | .de => .addHL_DE
  | .hl => .addHL_HL
  | .sp => .addHL_SP

/-- LD (BC),A, LD (DE),A, LD (HL+),A and LD (HL-),A. -/
def ldIndAInstr : Ind → Instr
  | .bc => .ldAtBC_A
  | .de => .ldAtDE_A
  | .hlInc => .ldAtHLinc_A
  | .hlDec => .ldAtHLdec_A

/-- LD A,(BC), LD A,(DE), LD A,(HL+) and LD A,(HL-). -/
def ldAIndInstr : Ind → Instr
  | .bc => .ldA_atBC
  | .de => .ldA_atDE
  | .hlInc => .ldA_atHLinc
  | .hlDec => .ldA_atHLdec

/-- RLCA, RRCA, RLA and RRA. -/
def accRotInstr : AccRot → Instr
  | .rlca => .rlca
  | .rrca => .rrca
  | .rla => .rla
  | .rra => .rra

/-- JR cc,e8. -/
def jrCondInstr (k : Cond) (e : Byte) : Instr :=
  match k with
  | .nz => .jrNZ_e8 e
  | .z => .jrZ_e8 e
  | .nc => .jrNC_e8 e
  | .c => .jrC_e8 e

/-- RET cc. -/
def retCondInstr : Cond → Instr
  | .nz => .retNZ
  | .z => .retZ
  | .nc => .retNC
  | .c => .retC

/-- JP cc,a16. -/
def jpCondInstr (k : Cond) (a : Word) : Instr :=
  match k with
  | .nz => .jpNZ_a16 a
  | .z => .jpZ_a16 a
  | .nc => .jpNC_a16 a
  | .c => .jpC_a16 a

/-- CALL cc,a16. -/
def callCondInstr (k : Cond) (a : Word) : Instr :=
  match k with
  | .nz => .callNZ_a16 a
  | .z => .callZ_a16 a
  | .nc => .callNC_a16 a
  | .c => .callC_a16 a

/-- POP qq. -/
def popInstr : QQ → Instr
  | .bc => .popBC
  | .de => .popDE
  | .hl => .popHL
  | .af => .popAF

/-- PUSH qq. -/
def pushInstr : QQ → Instr
  | .bc => .pushBC
  | .de => .pushDE
  | .hl => .pushHL
  | .af => .pushAF

/-- RST t. -/
def rstInstr : Fin 8 → Instr
  | 0 => .rst00H
  | 1 => .rst08H
  | 2 => .rst10H
  | 3 => .rst18H
  | 4 => .rst20H
  | 5 => .rst28H
  | 6 => .rst30H
  | 7 => .rst38H

/-- The reserved opcodes. -/
def reservedInstr : Hole → Instr
  | .hD3 => .reservedD3H
  | .hDB => .reservedDBH
  | .hDD => .reservedDDH
  | .hE3 => .reservedE3H
  | .hE4 => .reservedE4H
  | .hEB => .reservedEBH
  | .hEC => .reservedECH
  | .hED => .reservedEDH
  | .hF4 => .reservedF4H
  | .hFC => .reservedFCH
  | .hFD => .reservedFDH

/-- The row of the opcode table that a form names. -/
def instrOf : Form → Instr
  | .nop => .nop
  | .ldRR p n => ldRRInstr p n
  | .incRR p => incRRInstr p
  | .decRR p => decRRInstr p
  | .addHL p => addHLInstr p
  | .ldIndA p => ldIndAInstr p
  | .ldAInd p => ldAIndInstr p
  | .inc r => incInstr r
  | .dec r => decInstr r
  | .ldImm r n => ldImmInstr r n
  | .accRot o => accRotInstr o
  | .daa => .daa
  | .cpl => .cpl
  | .scf => .scf
  | .ccf => .ccf
  | .ldFarSP a => .ldAtA16_SP a
  | .stop n => .stop n
  | .jr e => .jr_e8 e
  | .jrCond k e => jrCondInstr k e
  | .ld dst src => ldInstr dst src
  | .halt => .halt
  | .alu o r => aluInstr o r
  | .aluImm o n => aluImmInstr o n
  | .retCond k => retCondInstr k
  | .jpCond k a => jpCondInstr k a
  | .callCond k a => callCondInstr k a
  | .pop q => popInstr q
  | .push q => pushInstr q
  | .rst t => rstInstr t
  | .jp a => .jp_a16 a
  | .ret => .ret
  | .reti => .reti
  | .call a => .call_a16 a
  | .prefixCB op => .prefixCB op
  | .ldhStore n => .ldhAtA8_A n
  | .ldhLoad n => .ldhA_atA8 n
  | .ldCStore => .ldAtC_A
  | .ldCLoad => .ldA_atC
  | .ldFarStore a => .ldAtA16_A a
  | .ldFarLoad a => .ldA_atA16 a
  | .addSP e => .addSP_e8 e
  | .ldHLSP e => .ldHL_SPe8 e
  | .jpHL => .jpHL
  | .ldSPHL => .ldSP_HL
  | .di => .di
  | .ei => .ei
  | .reserved x => reservedInstr x
  | .cb o r => cbInstr o r
  | .bit i r => bitInstr i r
  | .res i r => resInstr i r
  | .set i r => setInstr i r

/-- The form of a row: the fields that R55 gives its opcode. -/
def Instr.form : Instr → Form
  | .incB => .inc .b
  | .incC => .inc .c
  | .incD => .inc .d
  | .incE => .inc .e
  | .incH => .inc .h
  | .incL => .inc .l
  | .incA => .inc .a
  | .incAtHL => .inc .atHL
  | .decB => .dec .b
  | .decC => .dec .c
  | .decD => .dec .d
  | .decE => .dec .e
  | .decH => .dec .h
  | .decL => .dec .l
  | .decA => .dec .a
  | .decAtHL => .dec .atHL
  | .incBC => .incRR .bc
  | .incDE => .incRR .de
  | .incHL => .incRR .hl
  | .incSP => .incRR .sp
  | .decBC => .decRR .bc
  | .decDE => .decRR .de
  | .decHL => .decRR .hl
  | .decSP => .decRR .sp
  | .addA_B => .alu .add .b
  | .addA_C => .alu .add .c
  | .addA_D => .alu .add .d
  | .addA_E => .alu .add .e
  | .addA_H => .alu .add .h
  | .addA_L => .alu .add .l
  | .addA_atHL => .alu .add .atHL
  | .addA_A => .alu .add .a
  | .addA_d8 n => .aluImm .add n
  | .adcA_B => .alu .adc .b
  | .adcA_C => .alu .adc .c
  | .adcA_D => .alu .adc .d
  | .adcA_E => .alu .adc .e
  | .adcA_H => .alu .adc .h
  | .adcA_L => .alu .adc .l
  | .adcA_atHL => .alu .adc .atHL
  | .adcA_A => .alu .adc .a
  | .adcA_d8 n => .aluImm .adc n
  | .subA_B => .alu .sub .b
  | .subA_C => .alu .sub .c
  | .subA_D => .alu .sub .d
  | .subA_E => .alu .sub .e
  | .subA_H => .alu .sub .h
  | .subA_L => .alu .sub .l
  | .subA_atHL => .alu .sub .atHL
  | .subA_A => .alu .sub .a
  | .subA_d8 n => .aluImm .sub n
  | .sbcA_B => .alu .sbc .b
  | .sbcA_C => .alu .sbc .c
  | .sbcA_D => .alu .sbc .d
  | .sbcA_E => .alu .sbc .e
  | .sbcA_H => .alu .sbc .h
  | .sbcA_L => .alu .sbc .l
  | .sbcA_atHL => .alu .sbc .atHL
  | .sbcA_A => .alu .sbc .a
  | .sbcA_d8 n => .aluImm .sbc n
  | .andA_B => .alu .and .b
  | .andA_C => .alu .and .c
  | .andA_D => .alu .and .d
  | .andA_E => .alu .and .e
  | .andA_H => .alu .and .h
  | .andA_L => .alu .and .l
  | .andA_atHL => .alu .and .atHL
  | .andA_A => .alu .and .a
  | .andA_d8 n => .aluImm .and n
  | .xorA_B => .alu .xor .b
  | .xorA_C => .alu .xor .c
  | .xorA_D => .alu .xor .d
  | .xorA_E => .alu .xor .e
  | .xorA_H => .alu .xor .h
  | .xorA_L => .alu .xor .l
  | .xorA_atHL => .alu .xor .atHL
  | .xorA_A => .alu .xor .a
  | .xorA_d8 n => .aluImm .xor n
  | .orA_B => .alu .or .b
  | .orA_C => .alu .or .c
  | .orA_D => .alu .or .d
  | .orA_E => .alu .or .e
  | .orA_H => .alu .or .h
  | .orA_L => .alu .or .l
  | .orA_atHL => .alu .or .atHL
  | .orA_A => .alu .or .a
  | .orA_d8 n => .aluImm .or n
  | .cpA_B => .alu .cp .b
  | .cpA_C => .alu .cp .c
  | .cpA_D => .alu .cp .d
  | .cpA_E => .alu .cp .e
  | .cpA_H => .alu .cp .h
  | .cpA_L => .alu .cp .l
  | .cpA_atHL => .alu .cp .atHL
  | .cpA_A => .alu .cp .a
  | .cpA_d8 n => .aluImm .cp n
  | .addHL_BC => .addHL .bc
  | .addHL_DE => .addHL .de
  | .addHL_HL => .addHL .hl
  | .addHL_SP => .addHL .sp
  | .addSP_e8 e => .addSP e
  | .daa => .daa
  | .cpl => .cpl
  | .scf => .scf
  | .ccf => .ccf
  | .rlca => .accRot .rlca
  | .rla => .accRot .rla
  | .rrca => .accRot .rrca
  | .rra => .accRot .rra
  | .rlc_B => .cb .rlc .b
  | .rlc_C => .cb .rlc .c
  | .rlc_D => .cb .rlc .d
  | .rlc_E => .cb .rlc .e
  | .rlc_H => .cb .rlc .h
  | .rlc_L => .cb .rlc .l
  | .rlc_A => .cb .rlc .a
  | .rlc_atHL => .cb .rlc .atHL
  | .rrc_B => .cb .rrc .b
  | .rrc_C => .cb .rrc .c
  | .rrc_D => .cb .rrc .d
  | .rrc_E => .cb .rrc .e
  | .rrc_H => .cb .rrc .h
  | .rrc_L => .cb .rrc .l
  | .rrc_A => .cb .rrc .a
  | .rrc_atHL => .cb .rrc .atHL
  | .rl_B => .cb .rl .b
  | .rl_C => .cb .rl .c
  | .rl_D => .cb .rl .d
  | .rl_E => .cb .rl .e
  | .rl_H => .cb .rl .h
  | .rl_L => .cb .rl .l
  | .rl_A => .cb .rl .a
  | .rl_atHL => .cb .rl .atHL
  | .rr_B => .cb .rr .b
  | .rr_C => .cb .rr .c
  | .rr_D => .cb .rr .d
  | .rr_E => .cb .rr .e
  | .rr_H => .cb .rr .h
  | .rr_L => .cb .rr .l
  | .rr_A => .cb .rr .a
  | .rr_atHL => .cb .rr .atHL
  | .sla_B => .cb .sla .b
  | .sla_C => .cb .sla .c
  | .sla_D => .cb .sla .d
  | .sla_E => .cb .sla .e
  | .sla_H => .cb .sla .h
  | .sla_L => .cb .sla .l
  | .sla_A => .cb .sla .a
  | .sla_atHL => .cb .sla .atHL
  | .sra_B => .cb .sra .b
  | .sra_C => .cb .sra .c
  | .sra_D => .cb .sra .d
  | .sra_E => .cb .sra .e
  | .sra_H => .cb .sra .h
  | .sra_L => .cb .sra .l
  | .sra_A => .cb .sra .a
  | .sra_atHL => .cb .sra .atHL
  | .srl_B => .cb .srl .b
  | .srl_C => .cb .srl .c
  | .srl_D => .cb .srl .d
  | .srl_E => .cb .srl .e
  | .srl_H => .cb .srl .h
  | .srl_L => .cb .srl .l
  | .srl_A => .cb .srl .a
  | .srl_atHL => .cb .srl .atHL
  | .swap_B => .cb .swap .b
  | .swap_C => .cb .swap .c
  | .swap_D => .cb .swap .d
  | .swap_E => .cb .swap .e
  | .swap_H => .cb .swap .h
  | .swap_L => .cb .swap .l
  | .swap_A => .cb .swap .a
  | .swap_atHL => .cb .swap .atHL
  | .bit0_B => .bit 0 .b
  | .bit0_C => .bit 0 .c
  | .bit0_D => .bit 0 .d
  | .bit0_E => .bit 0 .e
  | .bit0_H => .bit 0 .h
  | .bit0_L => .bit 0 .l
  | .bit0_A => .bit 0 .a
  | .bit1_B => .bit 1 .b
  | .bit1_C => .bit 1 .c
  | .bit1_D => .bit 1 .d
  | .bit1_E => .bit 1 .e
  | .bit1_H => .bit 1 .h
  | .bit1_L => .bit 1 .l
  | .bit1_A => .bit 1 .a
  | .bit2_B => .bit 2 .b
  | .bit2_C => .bit 2 .c
  | .bit2_D => .bit 2 .d
  | .bit2_E => .bit 2 .e
  | .bit2_H => .bit 2 .h
  | .bit2_L => .bit 2 .l
  | .bit2_A => .bit 2 .a
  | .bit3_B => .bit 3 .b
  | .bit3_C => .bit 3 .c
  | .bit3_D => .bit 3 .d
  | .bit3_E => .bit 3 .e
  | .bit3_H => .bit 3 .h
  | .bit3_L => .bit 3 .l
  | .bit3_A => .bit 3 .a
  | .bit4_B => .bit 4 .b
  | .bit4_C => .bit 4 .c
  | .bit4_D => .bit 4 .d
  | .bit4_E => .bit 4 .e
  | .bit4_H => .bit 4 .h
  | .bit4_L => .bit 4 .l
  | .bit4_A => .bit 4 .a
  | .bit5_B => .bit 5 .b
  | .bit5_C => .bit 5 .c
  | .bit5_D => .bit 5 .d
  | .bit5_E => .bit 5 .e
  | .bit5_H => .bit 5 .h
  | .bit5_L => .bit 5 .l
  | .bit5_A => .bit 5 .a
  | .bit6_B => .bit 6 .b
  | .bit6_C => .bit 6 .c
  | .bit6_D => .bit 6 .d
  | .bit6_E => .bit 6 .e
  | .bit6_H => .bit 6 .h
  | .bit6_L => .bit 6 .l
  | .bit6_A => .bit 6 .a
  | .bit7_B => .bit 7 .b
  | .bit7_C => .bit 7 .c
  | .bit7_D => .bit 7 .d
  | .bit7_E => .bit 7 .e
  | .bit7_H => .bit 7 .h
  | .bit7_L => .bit 7 .l
  | .bit7_A => .bit 7 .a
  | .bit0_atHL => .bit 0 .atHL
  | .bit1_atHL => .bit 1 .atHL
  | .bit2_atHL => .bit 2 .atHL
  | .bit3_atHL => .bit 3 .atHL
  | .bit4_atHL => .bit 4 .atHL
  | .bit5_atHL => .bit 5 .atHL
  | .bit6_atHL => .bit 6 .atHL
  | .bit7_atHL => .bit 7 .atHL
  | .res0_B => .res 0 .b
  | .res0_C => .res 0 .c
  | .res0_D => .res 0 .d
  | .res0_E => .res 0 .e
  | .res0_H => .res 0 .h
  | .res0_L => .res 0 .l
  | .res0_A => .res 0 .a
  | .res1_B => .res 1 .b
  | .res1_C => .res 1 .c
  | .res1_D => .res 1 .d
  | .res1_E => .res 1 .e
  | .res1_H => .res 1 .h
  | .res1_L => .res 1 .l
  | .res1_A => .res 1 .a
  | .res2_B => .res 2 .b
  | .res2_C => .res 2 .c
  | .res2_D => .res 2 .d
  | .res2_E => .res 2 .e
  | .res2_H => .res 2 .h
  | .res2_L => .res 2 .l
  | .res2_A => .res 2 .a
  | .res3_B => .res 3 .b
  | .res3_C => .res 3 .c
  | .res3_D => .res 3 .d
  | .res3_E => .res 3 .e
  | .res3_H => .res 3 .h
  | .res3_L => .res 3 .l
  | .res3_A => .res 3 .a
  | .res4_B => .res 4 .b
  | .res4_C => .res 4 .c
  | .res4_D => .res 4 .d
  | .res4_E => .res 4 .e
  | .res4_H => .res 4 .h
  | .res4_L => .res 4 .l
  | .res4_A => .res 4 .a
  | .res5_B => .res 5 .b
  | .res5_C => .res 5 .c
  | .res5_D => .res 5 .d
  | .res5_E => .res 5 .e
  | .res5_H => .res 5 .h
  | .res5_L => .res 5 .l
  | .res5_A => .res 5 .a
  | .res6_B => .res 6 .b
  | .res6_C => .res 6 .c
  | .res6_D => .res 6 .d
  | .res6_E => .res 6 .e
  | .res6_H => .res 6 .h
  | .res6_L => .res 6 .l
  | .res6_A => .res 6 .a
  | .res7_B => .res 7 .b
  | .res7_C => .res 7 .c
  | .res7_D => .res 7 .d
  | .res7_E => .res 7 .e
  | .res7_H => .res 7 .h
  | .res7_L => .res 7 .l
  | .res7_A => .res 7 .a
  | .res0_atHL => .res 0 .atHL
  | .res1_atHL => .res 1 .atHL
  | .res2_atHL => .res 2 .atHL
  | .res3_atHL => .res 3 .atHL
  | .res4_atHL => .res 4 .atHL
  | .res5_atHL => .res 5 .atHL
  | .res6_atHL => .res 6 .atHL
  | .res7_atHL => .res 7 .atHL
  | .set0_B => .set 0 .b
  | .set0_C => .set 0 .c
  | .set0_D => .set 0 .d
  | .set0_E => .set 0 .e
  | .set0_H => .set 0 .h
  | .set0_L => .set 0 .l
  | .set0_A => .set 0 .a
  | .set1_B => .set 1 .b
  | .set1_C => .set 1 .c
  | .set1_D => .set 1 .d
  | .set1_E => .set 1 .e
  | .set1_H => .set 1 .h
  | .set1_L => .set 1 .l
  | .set1_A => .set 1 .a
  | .set2_B => .set 2 .b
  | .set2_C => .set 2 .c
  | .set2_D => .set 2 .d
  | .set2_E => .set 2 .e
  | .set2_H => .set 2 .h
  | .set2_L => .set 2 .l
  | .set2_A => .set 2 .a
  | .set3_B => .set 3 .b
  | .set3_C => .set 3 .c
  | .set3_D => .set 3 .d
  | .set3_E => .set 3 .e
  | .set3_H => .set 3 .h
  | .set3_L => .set 3 .l
  | .set3_A => .set 3 .a
  | .set4_B => .set 4 .b
  | .set4_C => .set 4 .c
  | .set4_D => .set 4 .d
  | .set4_E => .set 4 .e
  | .set4_H => .set 4 .h
  | .set4_L => .set 4 .l
  | .set4_A => .set 4 .a
  | .set5_B => .set 5 .b
  | .set5_C => .set 5 .c
  | .set5_D => .set 5 .d
  | .set5_E => .set 5 .e
  | .set5_H => .set 5 .h
  | .set5_L => .set 5 .l
  | .set5_A => .set 5 .a
  | .set6_B => .set 6 .b
  | .set6_C => .set 6 .c
  | .set6_D => .set 6 .d
  | .set6_E => .set 6 .e
  | .set6_H => .set 6 .h
  | .set6_L => .set 6 .l
  | .set6_A => .set 6 .a
  | .set7_B => .set 7 .b
  | .set7_C => .set 7 .c
  | .set7_D => .set 7 .d
  | .set7_E => .set 7 .e
  | .set7_H => .set 7 .h
  | .set7_L => .set 7 .l
  | .set7_A => .set 7 .a
  | .set0_atHL => .set 0 .atHL
  | .set1_atHL => .set 1 .atHL
  | .set2_atHL => .set 2 .atHL
  | .set3_atHL => .set 3 .atHL
  | .set4_atHL => .set 4 .atHL
  | .set5_atHL => .set 5 .atHL
  | .set6_atHL => .set 6 .atHL
  | .set7_atHL => .set 7 .atHL
  | .ldB_B => .ld .b .b
  | .ldB_C => .ld .b .c
  | .ldB_D => .ld .b .d
  | .ldB_E => .ld .b .e
  | .ldB_H => .ld .b .h
  | .ldB_L => .ld .b .l
  | .ldB_A => .ld .b .a
  | .ldC_B => .ld .c .b
  | .ldC_C => .ld .c .c
  | .ldC_D => .ld .c .d
  | .ldC_E => .ld .c .e
  | .ldC_H => .ld .c .h
  | .ldC_L => .ld .c .l
  | .ldC_A => .ld .c .a
  | .ldD_B => .ld .d .b
  | .ldD_C => .ld .d .c
  | .ldD_D => .ld .d .d
  | .ldD_E => .ld .d .e
  | .ldD_H => .ld .d .h
  | .ldD_L => .ld .d .l
  | .ldD_A => .ld .d .a
  | .ldE_B => .ld .e .b
  | .ldE_C => .ld .e .c
  | .ldE_D => .ld .e .d
  | .ldE_E => .ld .e .e
  | .ldE_H => .ld .e .h
  | .ldE_L => .ld .e .l
  | .ldE_A => .ld .e .a
  | .ldH_B => .ld .h .b
  | .ldH_C => .ld .h .c
  | .ldH_D => .ld .h .d
  | .ldH_E => .ld .h .e
  | .ldH_H => .ld .h .h
  | .ldH_L => .ld .h .l
  | .ldH_A => .ld .h .a
  | .ldL_B => .ld .l .b
  | .ldL_C => .ld .l .c
  | .ldL_D => .ld .l .d
  | .ldL_E => .ld .l .e
  | .ldL_H => .ld .l .h
  | .ldL_L => .ld .l .l
  | .ldL_A => .ld .l .a
  | .ldA_B => .ld .a .b
  | .ldA_C => .ld .a .c
  | .ldA_D => .ld .a .d
  | .ldA_E => .ld .a .e
  | .ldA_H => .ld .a .h
  | .ldA_L => .ld .a .l
  | .ldA_A => .ld .a .a
  | .ldB_d8 n => .ldImm .b n
  | .ldC_d8 n => .ldImm .c n
  | .ldD_d8 n => .ldImm .d n
  | .ldE_d8 n => .ldImm .e n
  | .ldH_d8 n => .ldImm .h n
  | .ldL_d8 n => .ldImm .l n
  | .ldA_d8 n => .ldImm .a n
  | .ldB_atHL => .ld .b .atHL
  | .ldC_atHL => .ld .c .atHL
  | .ldD_atHL => .ld .d .atHL
  | .ldE_atHL => .ld .e .atHL
  | .ldH_atHL => .ld .h .atHL
  | .ldL_atHL => .ld .l .atHL
  | .ldA_atHL => .ld .a .atHL
  | .ldAtHL_B => .ld .atHL .b
  | .ldAtHL_C => .ld .atHL .c
  | .ldAtHL_D => .ld .atHL .d
  | .ldAtHL_E => .ld .atHL .e
  | .ldAtHL_H => .ld .atHL .h
  | .ldAtHL_L => .ld .atHL .l
  | .ldAtHL_A => .ld .atHL .a
  | .ldAtHL_d8 n => .ldImm .atHL n
  | .ldAtBC_A => .ldIndA .bc
  | .ldAtDE_A => .ldIndA .de
  | .ldA_atBC => .ldAInd .bc
  | .ldA_atDE => .ldAInd .de
  | .ldAtHLinc_A => .ldIndA .hlInc
  | .ldA_atHLinc => .ldAInd .hlInc
  | .ldAtHLdec_A => .ldIndA .hlDec
  | .ldA_atHLdec => .ldAInd .hlDec
  | .ldhAtA8_A n => .ldhStore n
  | .ldhA_atA8 n => .ldhLoad n
  | .ldAtC_A => .ldCStore
  | .ldA_atC => .ldCLoad
  | .ldAtA16_A a => .ldFarStore a
  | .ldA_atA16 a => .ldFarLoad a
  | .ldBC_d16 n => .ldRR .bc n
  | .ldDE_d16 n => .ldRR .de n
  | .ldHL_d16 n => .ldRR .hl n
  | .ldSP_d16 n => .ldRR .sp n
  | .ldAtA16_SP a => .ldFarSP a
  | .ldSP_HL => .ldSPHL
  | .ldHL_SPe8 e => .ldHLSP e
  | .pushBC => .push .bc
  | .pushDE => .push .de
  | .pushHL => .push .hl
  | .pushAF => .push .af
  | .popBC => .pop .bc
  | .popDE => .pop .de
  | .popHL => .pop .hl
  | .popAF => .pop .af
  | .jp_a16 a => .jp a
  | .jpNZ_a16 a => .jpCond .nz a
  | .jpZ_a16 a => .jpCond .z a
  | .jpNC_a16 a => .jpCond .nc a
  | .jpC_a16 a => .jpCond .c a
  | .jpHL => .jpHL
  | .jr_e8 e => .jr e
  | .jrNZ_e8 e => .jrCond .nz e
  | .jrZ_e8 e => .jrCond .z e
  | .jrNC_e8 e => .jrCond .nc e
  | .jrC_e8 e => .jrCond .c e
  | .call_a16 a => .call a
  | .callNZ_a16 a => .callCond .nz a
  | .callZ_a16 a => .callCond .z a
  | .callNC_a16 a => .callCond .nc a
  | .callC_a16 a => .callCond .c a
  | .ret => .ret
  | .retNZ => .retCond .nz
  | .retZ => .retCond .z
  | .retNC => .retCond .nc
  | .retC => .retCond .c
  | .reti => .reti
  | .rst00H => .rst 0
  | .rst08H => .rst 1
  | .rst10H => .rst 2
  | .rst18H => .rst 3
  | .rst20H => .rst 4
  | .rst28H => .rst 5
  | .rst30H => .rst 6
  | .rst38H => .rst 7
  | .nop => .nop
  | .halt => .halt
  | .stop n => .stop n
  | .di => .di
  | .ei => .ei
  | .reservedD3H => .reserved .hD3
  | .reservedDBH => .reserved .hDB
  | .reservedDDH => .reserved .hDD
  | .reservedE3H => .reserved .hE3
  | .reservedE4H => .reserved .hE4
  | .reservedEBH => .reserved .hEB
  | .reservedECH => .reserved .hEC
  | .reservedEDH => .reserved .hED
  | .reservedF4H => .reserved .hF4
  | .reservedFCH => .reserved .hFC
  | .reservedFDH => .reserved .hFD
  | .prefixCB op => .prefixCB op

/-! ## The decoder -/

/-- The instruction that three bytes begin with; an operand byte the instruction does not have is not looked at. -/
def decodeBytes (op b1 b2 : Byte) : Instr := instrOf (decodeForm op b1 b2)

/-- Why a list of bytes is no instruction: it is empty, or it ends inside the instruction its first byte begins. Every
opcode of both tables has an entry (R61), so there is no other reason. -/
inductive DecodeError where
  | empty
  | truncated (op : Byte)
deriving DecidableEq, Repr

/-- Decodes one instruction from a list of bytes and answers it with the rest of the list (R54, R67). -/
def decode : List Byte → Except DecodeError (Instr × List Byte)
  | [] => .error .empty
  | op :: rest =>
    match instrLength op, rest with
    | 1, rest => .ok (decodeBytes op 0 0, rest)
    | 2, b1 :: rest => .ok (decodeBytes op b1 0, rest)
    | _, b1 :: b2 :: rest => .ok (decodeBytes op b1 b2, rest)
    | _, _ => .error (.truncated op)

/-! ## The encoder -/

/-- The bytes of an instruction, from the opcode maps R59 and R60, operands little-endian (R41, R57). -/
def encode : Instr → List Byte
  | .incB => [0x04]
  | .incC => [0x0C]
  | .incD => [0x14]
  | .incE => [0x1C]
  | .incH => [0x24]
  | .incL => [0x2C]
  | .incA => [0x3C]
  | .incAtHL => [0x34]
  | .decB => [0x05]
  | .decC => [0x0D]
  | .decD => [0x15]
  | .decE => [0x1D]
  | .decH => [0x25]
  | .decL => [0x2D]
  | .decA => [0x3D]
  | .decAtHL => [0x35]
  | .incBC => [0x03]
  | .incDE => [0x13]
  | .incHL => [0x23]
  | .incSP => [0x33]
  | .decBC => [0x0B]
  | .decDE => [0x1B]
  | .decHL => [0x2B]
  | .decSP => [0x3B]
  | .addA_B => [0x80]
  | .addA_C => [0x81]
  | .addA_D => [0x82]
  | .addA_E => [0x83]
  | .addA_H => [0x84]
  | .addA_L => [0x85]
  | .addA_atHL => [0x86]
  | .addA_A => [0x87]
  | .addA_d8 n => [0xC6, n]
  | .adcA_B => [0x88]
  | .adcA_C => [0x89]
  | .adcA_D => [0x8A]
  | .adcA_E => [0x8B]
  | .adcA_H => [0x8C]
  | .adcA_L => [0x8D]
  | .adcA_atHL => [0x8E]
  | .adcA_A => [0x8F]
  | .adcA_d8 n => [0xCE, n]
  | .subA_B => [0x90]
  | .subA_C => [0x91]
  | .subA_D => [0x92]
  | .subA_E => [0x93]
  | .subA_H => [0x94]
  | .subA_L => [0x95]
  | .subA_atHL => [0x96]
  | .subA_A => [0x97]
  | .subA_d8 n => [0xD6, n]
  | .sbcA_B => [0x98]
  | .sbcA_C => [0x99]
  | .sbcA_D => [0x9A]
  | .sbcA_E => [0x9B]
  | .sbcA_H => [0x9C]
  | .sbcA_L => [0x9D]
  | .sbcA_atHL => [0x9E]
  | .sbcA_A => [0x9F]
  | .sbcA_d8 n => [0xDE, n]
  | .andA_B => [0xA0]
  | .andA_C => [0xA1]
  | .andA_D => [0xA2]
  | .andA_E => [0xA3]
  | .andA_H => [0xA4]
  | .andA_L => [0xA5]
  | .andA_atHL => [0xA6]
  | .andA_A => [0xA7]
  | .andA_d8 n => [0xE6, n]
  | .xorA_B => [0xA8]
  | .xorA_C => [0xA9]
  | .xorA_D => [0xAA]
  | .xorA_E => [0xAB]
  | .xorA_H => [0xAC]
  | .xorA_L => [0xAD]
  | .xorA_atHL => [0xAE]
  | .xorA_A => [0xAF]
  | .xorA_d8 n => [0xEE, n]
  | .orA_B => [0xB0]
  | .orA_C => [0xB1]
  | .orA_D => [0xB2]
  | .orA_E => [0xB3]
  | .orA_H => [0xB4]
  | .orA_L => [0xB5]
  | .orA_atHL => [0xB6]
  | .orA_A => [0xB7]
  | .orA_d8 n => [0xF6, n]
  | .cpA_B => [0xB8]
  | .cpA_C => [0xB9]
  | .cpA_D => [0xBA]
  | .cpA_E => [0xBB]
  | .cpA_H => [0xBC]
  | .cpA_L => [0xBD]
  | .cpA_atHL => [0xBE]
  | .cpA_A => [0xBF]
  | .cpA_d8 n => [0xFE, n]
  | .addHL_BC => [0x09]
  | .addHL_DE => [0x19]
  | .addHL_HL => [0x29]
  | .addHL_SP => [0x39]
  | .addSP_e8 e => [0xE8, e]
  | .daa => [0x27]
  | .cpl => [0x2F]
  | .scf => [0x37]
  | .ccf => [0x3F]
  | .rlca => [0x07]
  | .rla => [0x17]
  | .rrca => [0x0F]
  | .rra => [0x1F]
  | .rlc_B => [0xCB, 0x00]
  | .rlc_C => [0xCB, 0x01]
  | .rlc_D => [0xCB, 0x02]
  | .rlc_E => [0xCB, 0x03]
  | .rlc_H => [0xCB, 0x04]
  | .rlc_L => [0xCB, 0x05]
  | .rlc_A => [0xCB, 0x07]
  | .rlc_atHL => [0xCB, 0x06]
  | .rrc_B => [0xCB, 0x08]
  | .rrc_C => [0xCB, 0x09]
  | .rrc_D => [0xCB, 0x0A]
  | .rrc_E => [0xCB, 0x0B]
  | .rrc_H => [0xCB, 0x0C]
  | .rrc_L => [0xCB, 0x0D]
  | .rrc_A => [0xCB, 0x0F]
  | .rrc_atHL => [0xCB, 0x0E]
  | .rl_B => [0xCB, 0x10]
  | .rl_C => [0xCB, 0x11]
  | .rl_D => [0xCB, 0x12]
  | .rl_E => [0xCB, 0x13]
  | .rl_H => [0xCB, 0x14]
  | .rl_L => [0xCB, 0x15]
  | .rl_A => [0xCB, 0x17]
  | .rl_atHL => [0xCB, 0x16]
  | .rr_B => [0xCB, 0x18]
  | .rr_C => [0xCB, 0x19]
  | .rr_D => [0xCB, 0x1A]
  | .rr_E => [0xCB, 0x1B]
  | .rr_H => [0xCB, 0x1C]
  | .rr_L => [0xCB, 0x1D]
  | .rr_A => [0xCB, 0x1F]
  | .rr_atHL => [0xCB, 0x1E]
  | .sla_B => [0xCB, 0x20]
  | .sla_C => [0xCB, 0x21]
  | .sla_D => [0xCB, 0x22]
  | .sla_E => [0xCB, 0x23]
  | .sla_H => [0xCB, 0x24]
  | .sla_L => [0xCB, 0x25]
  | .sla_A => [0xCB, 0x27]
  | .sla_atHL => [0xCB, 0x26]
  | .sra_B => [0xCB, 0x28]
  | .sra_C => [0xCB, 0x29]
  | .sra_D => [0xCB, 0x2A]
  | .sra_E => [0xCB, 0x2B]
  | .sra_H => [0xCB, 0x2C]
  | .sra_L => [0xCB, 0x2D]
  | .sra_A => [0xCB, 0x2F]
  | .sra_atHL => [0xCB, 0x2E]
  | .srl_B => [0xCB, 0x38]
  | .srl_C => [0xCB, 0x39]
  | .srl_D => [0xCB, 0x3A]
  | .srl_E => [0xCB, 0x3B]
  | .srl_H => [0xCB, 0x3C]
  | .srl_L => [0xCB, 0x3D]
  | .srl_A => [0xCB, 0x3F]
  | .srl_atHL => [0xCB, 0x3E]
  | .swap_B => [0xCB, 0x30]
  | .swap_C => [0xCB, 0x31]
  | .swap_D => [0xCB, 0x32]
  | .swap_E => [0xCB, 0x33]
  | .swap_H => [0xCB, 0x34]
  | .swap_L => [0xCB, 0x35]
  | .swap_A => [0xCB, 0x37]
  | .swap_atHL => [0xCB, 0x36]
  | .bit0_B => [0xCB, 0x40]
  | .bit0_C => [0xCB, 0x41]
  | .bit0_D => [0xCB, 0x42]
  | .bit0_E => [0xCB, 0x43]
  | .bit0_H => [0xCB, 0x44]
  | .bit0_L => [0xCB, 0x45]
  | .bit0_A => [0xCB, 0x47]
  | .bit1_B => [0xCB, 0x48]
  | .bit1_C => [0xCB, 0x49]
  | .bit1_D => [0xCB, 0x4A]
  | .bit1_E => [0xCB, 0x4B]
  | .bit1_H => [0xCB, 0x4C]
  | .bit1_L => [0xCB, 0x4D]
  | .bit1_A => [0xCB, 0x4F]
  | .bit2_B => [0xCB, 0x50]
  | .bit2_C => [0xCB, 0x51]
  | .bit2_D => [0xCB, 0x52]
  | .bit2_E => [0xCB, 0x53]
  | .bit2_H => [0xCB, 0x54]
  | .bit2_L => [0xCB, 0x55]
  | .bit2_A => [0xCB, 0x57]
  | .bit3_B => [0xCB, 0x58]
  | .bit3_C => [0xCB, 0x59]
  | .bit3_D => [0xCB, 0x5A]
  | .bit3_E => [0xCB, 0x5B]
  | .bit3_H => [0xCB, 0x5C]
  | .bit3_L => [0xCB, 0x5D]
  | .bit3_A => [0xCB, 0x5F]
  | .bit4_B => [0xCB, 0x60]
  | .bit4_C => [0xCB, 0x61]
  | .bit4_D => [0xCB, 0x62]
  | .bit4_E => [0xCB, 0x63]
  | .bit4_H => [0xCB, 0x64]
  | .bit4_L => [0xCB, 0x65]
  | .bit4_A => [0xCB, 0x67]
  | .bit5_B => [0xCB, 0x68]
  | .bit5_C => [0xCB, 0x69]
  | .bit5_D => [0xCB, 0x6A]
  | .bit5_E => [0xCB, 0x6B]
  | .bit5_H => [0xCB, 0x6C]
  | .bit5_L => [0xCB, 0x6D]
  | .bit5_A => [0xCB, 0x6F]
  | .bit6_B => [0xCB, 0x70]
  | .bit6_C => [0xCB, 0x71]
  | .bit6_D => [0xCB, 0x72]
  | .bit6_E => [0xCB, 0x73]
  | .bit6_H => [0xCB, 0x74]
  | .bit6_L => [0xCB, 0x75]
  | .bit6_A => [0xCB, 0x77]
  | .bit7_B => [0xCB, 0x78]
  | .bit7_C => [0xCB, 0x79]
  | .bit7_D => [0xCB, 0x7A]
  | .bit7_E => [0xCB, 0x7B]
  | .bit7_H => [0xCB, 0x7C]
  | .bit7_L => [0xCB, 0x7D]
  | .bit7_A => [0xCB, 0x7F]
  | .bit0_atHL => [0xCB, 0x46]
  | .bit1_atHL => [0xCB, 0x4E]
  | .bit2_atHL => [0xCB, 0x56]
  | .bit3_atHL => [0xCB, 0x5E]
  | .bit4_atHL => [0xCB, 0x66]
  | .bit5_atHL => [0xCB, 0x6E]
  | .bit6_atHL => [0xCB, 0x76]
  | .bit7_atHL => [0xCB, 0x7E]
  | .res0_B => [0xCB, 0x80]
  | .res0_C => [0xCB, 0x81]
  | .res0_D => [0xCB, 0x82]
  | .res0_E => [0xCB, 0x83]
  | .res0_H => [0xCB, 0x84]
  | .res0_L => [0xCB, 0x85]
  | .res0_A => [0xCB, 0x87]
  | .res1_B => [0xCB, 0x88]
  | .res1_C => [0xCB, 0x89]
  | .res1_D => [0xCB, 0x8A]
  | .res1_E => [0xCB, 0x8B]
  | .res1_H => [0xCB, 0x8C]
  | .res1_L => [0xCB, 0x8D]
  | .res1_A => [0xCB, 0x8F]
  | .res2_B => [0xCB, 0x90]
  | .res2_C => [0xCB, 0x91]
  | .res2_D => [0xCB, 0x92]
  | .res2_E => [0xCB, 0x93]
  | .res2_H => [0xCB, 0x94]
  | .res2_L => [0xCB, 0x95]
  | .res2_A => [0xCB, 0x97]
  | .res3_B => [0xCB, 0x98]
  | .res3_C => [0xCB, 0x99]
  | .res3_D => [0xCB, 0x9A]
  | .res3_E => [0xCB, 0x9B]
  | .res3_H => [0xCB, 0x9C]
  | .res3_L => [0xCB, 0x9D]
  | .res3_A => [0xCB, 0x9F]
  | .res4_B => [0xCB, 0xA0]
  | .res4_C => [0xCB, 0xA1]
  | .res4_D => [0xCB, 0xA2]
  | .res4_E => [0xCB, 0xA3]
  | .res4_H => [0xCB, 0xA4]
  | .res4_L => [0xCB, 0xA5]
  | .res4_A => [0xCB, 0xA7]
  | .res5_B => [0xCB, 0xA8]
  | .res5_C => [0xCB, 0xA9]
  | .res5_D => [0xCB, 0xAA]
  | .res5_E => [0xCB, 0xAB]
  | .res5_H => [0xCB, 0xAC]
  | .res5_L => [0xCB, 0xAD]
  | .res5_A => [0xCB, 0xAF]
  | .res6_B => [0xCB, 0xB0]
  | .res6_C => [0xCB, 0xB1]
  | .res6_D => [0xCB, 0xB2]
  | .res6_E => [0xCB, 0xB3]
  | .res6_H => [0xCB, 0xB4]
  | .res6_L => [0xCB, 0xB5]
  | .res6_A => [0xCB, 0xB7]
  | .res7_B => [0xCB, 0xB8]
  | .res7_C => [0xCB, 0xB9]
  | .res7_D => [0xCB, 0xBA]
  | .res7_E => [0xCB, 0xBB]
  | .res7_H => [0xCB, 0xBC]
  | .res7_L => [0xCB, 0xBD]
  | .res7_A => [0xCB, 0xBF]
  | .res0_atHL => [0xCB, 0x86]
  | .res1_atHL => [0xCB, 0x8E]
  | .res2_atHL => [0xCB, 0x96]
  | .res3_atHL => [0xCB, 0x9E]
  | .res4_atHL => [0xCB, 0xA6]
  | .res5_atHL => [0xCB, 0xAE]
  | .res6_atHL => [0xCB, 0xB6]
  | .res7_atHL => [0xCB, 0xBE]
  | .set0_B => [0xCB, 0xC0]
  | .set0_C => [0xCB, 0xC1]
  | .set0_D => [0xCB, 0xC2]
  | .set0_E => [0xCB, 0xC3]
  | .set0_H => [0xCB, 0xC4]
  | .set0_L => [0xCB, 0xC5]
  | .set0_A => [0xCB, 0xC7]
  | .set1_B => [0xCB, 0xC8]
  | .set1_C => [0xCB, 0xC9]
  | .set1_D => [0xCB, 0xCA]
  | .set1_E => [0xCB, 0xCB]
  | .set1_H => [0xCB, 0xCC]
  | .set1_L => [0xCB, 0xCD]
  | .set1_A => [0xCB, 0xCF]
  | .set2_B => [0xCB, 0xD0]
  | .set2_C => [0xCB, 0xD1]
  | .set2_D => [0xCB, 0xD2]
  | .set2_E => [0xCB, 0xD3]
  | .set2_H => [0xCB, 0xD4]
  | .set2_L => [0xCB, 0xD5]
  | .set2_A => [0xCB, 0xD7]
  | .set3_B => [0xCB, 0xD8]
  | .set3_C => [0xCB, 0xD9]
  | .set3_D => [0xCB, 0xDA]
  | .set3_E => [0xCB, 0xDB]
  | .set3_H => [0xCB, 0xDC]
  | .set3_L => [0xCB, 0xDD]
  | .set3_A => [0xCB, 0xDF]
  | .set4_B => [0xCB, 0xE0]
  | .set4_C => [0xCB, 0xE1]
  | .set4_D => [0xCB, 0xE2]
  | .set4_E => [0xCB, 0xE3]
  | .set4_H => [0xCB, 0xE4]
  | .set4_L => [0xCB, 0xE5]
  | .set4_A => [0xCB, 0xE7]
  | .set5_B => [0xCB, 0xE8]
  | .set5_C => [0xCB, 0xE9]
  | .set5_D => [0xCB, 0xEA]
  | .set5_E => [0xCB, 0xEB]
  | .set5_H => [0xCB, 0xEC]
  | .set5_L => [0xCB, 0xED]
  | .set5_A => [0xCB, 0xEF]
  | .set6_B => [0xCB, 0xF0]
  | .set6_C => [0xCB, 0xF1]
  | .set6_D => [0xCB, 0xF2]
  | .set6_E => [0xCB, 0xF3]
  | .set6_H => [0xCB, 0xF4]
  | .set6_L => [0xCB, 0xF5]
  | .set6_A => [0xCB, 0xF7]
  | .set7_B => [0xCB, 0xF8]
  | .set7_C => [0xCB, 0xF9]
  | .set7_D => [0xCB, 0xFA]
  | .set7_E => [0xCB, 0xFB]
  | .set7_H => [0xCB, 0xFC]
  | .set7_L => [0xCB, 0xFD]
  | .set7_A => [0xCB, 0xFF]
  | .set0_atHL => [0xCB, 0xC6]
  | .set1_atHL => [0xCB, 0xCE]
  | .set2_atHL => [0xCB, 0xD6]
  | .set3_atHL => [0xCB, 0xDE]
  | .set4_atHL => [0xCB, 0xE6]
  | .set5_atHL => [0xCB, 0xEE]
  | .set6_atHL => [0xCB, 0xF6]
  | .set7_atHL => [0xCB, 0xFE]
  | .ldB_B => [0x40]
  | .ldB_C => [0x41]
  | .ldB_D => [0x42]
  | .ldB_E => [0x43]
  | .ldB_H => [0x44]
  | .ldB_L => [0x45]
  | .ldB_A => [0x47]
  | .ldC_B => [0x48]
  | .ldC_C => [0x49]
  | .ldC_D => [0x4A]
  | .ldC_E => [0x4B]
  | .ldC_H => [0x4C]
  | .ldC_L => [0x4D]
  | .ldC_A => [0x4F]
  | .ldD_B => [0x50]
  | .ldD_C => [0x51]
  | .ldD_D => [0x52]
  | .ldD_E => [0x53]
  | .ldD_H => [0x54]
  | .ldD_L => [0x55]
  | .ldD_A => [0x57]
  | .ldE_B => [0x58]
  | .ldE_C => [0x59]
  | .ldE_D => [0x5A]
  | .ldE_E => [0x5B]
  | .ldE_H => [0x5C]
  | .ldE_L => [0x5D]
  | .ldE_A => [0x5F]
  | .ldH_B => [0x60]
  | .ldH_C => [0x61]
  | .ldH_D => [0x62]
  | .ldH_E => [0x63]
  | .ldH_H => [0x64]
  | .ldH_L => [0x65]
  | .ldH_A => [0x67]
  | .ldL_B => [0x68]
  | .ldL_C => [0x69]
  | .ldL_D => [0x6A]
  | .ldL_E => [0x6B]
  | .ldL_H => [0x6C]
  | .ldL_L => [0x6D]
  | .ldL_A => [0x6F]
  | .ldA_B => [0x78]
  | .ldA_C => [0x79]
  | .ldA_D => [0x7A]
  | .ldA_E => [0x7B]
  | .ldA_H => [0x7C]
  | .ldA_L => [0x7D]
  | .ldA_A => [0x7F]
  | .ldB_d8 n => [0x06, n]
  | .ldC_d8 n => [0x0E, n]
  | .ldD_d8 n => [0x16, n]
  | .ldE_d8 n => [0x1E, n]
  | .ldH_d8 n => [0x26, n]
  | .ldL_d8 n => [0x2E, n]
  | .ldA_d8 n => [0x3E, n]
  | .ldB_atHL => [0x46]
  | .ldC_atHL => [0x4E]
  | .ldD_atHL => [0x56]
  | .ldE_atHL => [0x5E]
  | .ldH_atHL => [0x66]
  | .ldL_atHL => [0x6E]
  | .ldA_atHL => [0x7E]
  | .ldAtHL_B => [0x70]
  | .ldAtHL_C => [0x71]
  | .ldAtHL_D => [0x72]
  | .ldAtHL_E => [0x73]
  | .ldAtHL_H => [0x74]
  | .ldAtHL_L => [0x75]
  | .ldAtHL_A => [0x77]
  | .ldAtHL_d8 n => [0x36, n]
  | .ldAtBC_A => [0x02]
  | .ldAtDE_A => [0x12]
  | .ldA_atBC => [0x0A]
  | .ldA_atDE => [0x1A]
  | .ldAtHLinc_A => [0x22]
  | .ldA_atHLinc => [0x2A]
  | .ldAtHLdec_A => [0x32]
  | .ldA_atHLdec => [0x3A]
  | .ldhAtA8_A n => [0xE0, n]
  | .ldhA_atA8 n => [0xF0, n]
  | .ldAtC_A => [0xE2]
  | .ldA_atC => [0xF2]
  | .ldAtA16_A a => [0xEA, loByte a, hiByte a]
  | .ldA_atA16 a => [0xFA, loByte a, hiByte a]
  | .ldBC_d16 n => [0x01, loByte n, hiByte n]
  | .ldDE_d16 n => [0x11, loByte n, hiByte n]
  | .ldHL_d16 n => [0x21, loByte n, hiByte n]
  | .ldSP_d16 n => [0x31, loByte n, hiByte n]
  | .ldAtA16_SP a => [0x08, loByte a, hiByte a]
  | .ldSP_HL => [0xF9]
  | .ldHL_SPe8 e => [0xF8, e]
  | .pushBC => [0xC5]
  | .pushDE => [0xD5]
  | .pushHL => [0xE5]
  | .pushAF => [0xF5]
  | .popBC => [0xC1]
  | .popDE => [0xD1]
  | .popHL => [0xE1]
  | .popAF => [0xF1]
  | .jp_a16 a => [0xC3, loByte a, hiByte a]
  | .jpNZ_a16 a => [0xC2, loByte a, hiByte a]
  | .jpZ_a16 a => [0xCA, loByte a, hiByte a]
  | .jpNC_a16 a => [0xD2, loByte a, hiByte a]
  | .jpC_a16 a => [0xDA, loByte a, hiByte a]
  | .jpHL => [0xE9]
  | .jr_e8 e => [0x18, e]
  | .jrNZ_e8 e => [0x20, e]
  | .jrZ_e8 e => [0x28, e]
  | .jrNC_e8 e => [0x30, e]
  | .jrC_e8 e => [0x38, e]
  | .call_a16 a => [0xCD, loByte a, hiByte a]
  | .callNZ_a16 a => [0xC4, loByte a, hiByte a]
  | .callZ_a16 a => [0xCC, loByte a, hiByte a]
  | .callNC_a16 a => [0xD4, loByte a, hiByte a]
  | .callC_a16 a => [0xDC, loByte a, hiByte a]
  | .ret => [0xC9]
  | .retNZ => [0xC0]
  | .retZ => [0xC8]
  | .retNC => [0xD0]
  | .retC => [0xD8]
  | .reti => [0xD9]
  | .rst00H => [0xC7]
  | .rst08H => [0xCF]
  | .rst10H => [0xD7]
  | .rst18H => [0xDF]
  | .rst20H => [0xE7]
  | .rst28H => [0xEF]
  | .rst30H => [0xF7]
  | .rst38H => [0xFF]
  | .nop => [0x00]
  | .halt => [0x76]
  | .stop n => [0x10, n]
  | .di => [0xF3]
  | .ei => [0xFB]
  | .reservedD3H => [0xD3]
  | .reservedDBH => [0xDB]
  | .reservedDDH => [0xDD]
  | .reservedE3H => [0xE3]
  | .reservedE4H => [0xE4]
  | .reservedEBH => [0xEB]
  | .reservedECH => [0xEC]
  | .reservedEDH => [0xED]
  | .reservedF4H => [0xF4]
  | .reservedFCH => [0xFC]
  | .reservedFDH => [0xFD]
  | .prefixCB op => [0xCB, op]

/-! ## The opcode table's words -/

/-- The byte of a table word at an index. -/
def wordByte (w i : Nat) : Byte := BitVec.ofNat 8 (w / 256 ^ i)

/-- The first three bytes, lowest address first, of an instruction whose bits the opcode table gives as `w`. Bit 0 is
the least significant bit of the first byte, and later bytes count on from it. The table's 16-bit rows, the CB rows,
are written the other way round, 0xCB in bits 15..8 and the CB opcode in bits 7..0: they are laid out with 0xCB first,
as R54 and R64 say (DEDUCED, log entry 5). Bits above `nbits` are 0. -/
def tableBytes (nbits w : Nat) : Byte × Byte × Byte :=
  let w := w % 2 ^ nbits
  if nbits = 16 ∧ wordByte w 1 = 0xCB then (wordByte w 1, wordByte w 0, 0)
  else (wordByte w 0, wordByte w 1, wordByte w 2)

/-- The instruction the decoder reads from a word of the opcode table. -/
def decodeTableWord (nbits w : Nat) : Option Instr :=
  match tableBytes nbits w with
  | (op, b1, b2) =>
    match decode [op, b1, b2] with
    | .ok (i, _) => some i
    | .error _ => none

end Sys2Proof
end

