-- ==== Sys2Proof/Config.lean ====
section
/-! DEFINITION. The implementation parameters of spec/00_scope.md R5. MEM_SIZE and DAA_ALGORITHM stay fixed for a
machine and are read by its steps (`Config`); RESET_REGS, RESET_SP, RESET_PC and INITIAL_MEMORY are read once, at
reset (`Launch`). Log entries 1, 2 and 3 say which values the model's defaults take. -/

namespace Sys2Proof

/-- NEAR_BASE (R5, R33). -/
def nearBase : Word := 0xFF00

/-- DAA_ALGORITHM (R5, R88). -/
inductive DaaAlgorithm where
  | document
  | sm83
deriving DecidableEq, Repr

/-- The parameters a step reads: MEM_SIZE and DAA_ALGORITHM (R5). -/
structure Config where
  memSize : Nat
  daa : DaaAlgorithm
deriving DecidableEq, Repr

/-- R5's range of MEM_SIZE: 1 ≤ MEM_SIZE ≤ 0x10000. -/
abbrev Config.wf (c : Config) : Prop := 1 ≤ c.memSize ∧ c.memSize ≤ 0x10000

/-- R5's defaults: MEM_SIZE = 0x10000 and DAA_ALGORITHM = document. -/
def Config.default : Config := ⟨0x10000, .document⟩

/-- The launch parameters of a reset (R30, R181). `f` gives F[7:4]; F[3:0] is 0 whatever its low nibble. `initial`
gives INITIAL_MEMORY as the bytes that differ from the model's fill byte (log entry 2), `program` the loader's writes
in order (R186). -/
structure Launch where
  cfg : Config
  a : Byte
  f : Byte
  b : Byte
  c : Byte
  d : Byte
  e : Byte
  h : Byte
  l : Byte
  sp : Word
  pc : Word
  initial : List Host.Cell
  program : List (Word × Byte)
deriving DecidableEq, Repr

/-- DESIGN CHOICE (log entry 1): the DMG post-boot profile, which R30 prints for reference and allows as a launch
state, with nothing loaded. -/
def Launch.default : Launch :=
  ⟨Config.default, 0x01, 0xB0, 0x00, 0x13, 0x00, 0xD8, 0x01, 0x4D, 0xFFFE, 0x0100, [], []⟩

end Sys2Proof
end

