-- ==== Sys2Proof/Machine/State.lean ====
section
/-! DEFINITION. The architectural state (spec/10_state.md), the faults (spec/60_exceptions.md) and the state after
reset. -/

namespace Sys2Proof.Machine

/-- The fatal faults of R165. Each stops the machine for good (R169): the step that raises one has no successor. -/
inductive Fault where
  /-- A byte access to an address at or above MEM_SIZE (R34, R166), raised by fetch and by every memory operation. Not a
  difference from the hardware: the spec raises it. Safe. -/
  | outOfRange (addr : Word)
  /-- A reserved primary opcode (R163), raised by the 11 reserved rows. The spec raises it. Safe. -/
  | reserved (op : Byte)
  /-- HALT, STOP, DI or EI (R159 to R162). The spec raises it. Safe. -/
  | unimplemented (op : Byte)
deriving DecidableEq, Repr

/-- The run status (R28). -/
inductive RunStatus where
  | running
  | faulted (f : Fault)
deriving DecidableEq, Repr

/-- Why a step answers no meaning. -/
inductive Refusal where
  /-- An instruction with no meaning in this model, raised by an arm of `exec` that rejects it by name; no arm does.
  Safe. -/
  | notModelled (mnemonic : String)
  /-- A step called on a Faulted state: it is refused with the recorded fault and changes nothing (R185). Raised by
  `step`. Safe. -/
  | alreadyFaulted (f : Fault)
deriving DecidableEq, Repr

/-- The memory's cells: address and byte, addresses strictly rising, no cell equal to what an unlisted address reads as
(`Memory.wf`). -/
abbrev Memory := List Host.Cell

/-- The state of the core: the registers (R15), SP and PC (R19, R20), IME (R25), memory (R27), the run status (R28), and
the two parameters that its steps read (R5, log entry 3). -/
structure State where
  a : Byte
  f : Byte
  b : Byte
  c : Byte
  d : Byte
  e : Byte
  h : Byte
  l : Byte
  sp : Word
  pc : Word
  ime : Bool
  mem : Memory
  status : RunStatus
  cfg : Config
deriving DecidableEq, Repr

/-- The machine right after reset (R30, R181): IME is 0 and the status Running; the registers hold the launch values of
log entry 1 (DESIGN CHOICE), memory lists nothing (log entry 2), the parameters are R5's defaults. -/
def State.reset : State :=
  let p := Launch.default
  { a := p.a, f := p.f, b := p.b, c := p.c, d := p.d, e := p.e, h := p.h, l := p.l
    sp := p.sp, pc := p.pc, ime := false, mem := [], status := .running, cfg := p.cfg }

end Sys2Proof.Machine
end

