-- ==== Sys2Proof/Machine/Ops.lean ====
section
/-! DEFINITION. The named operations over memory, register pairs and the stack (spec/20_memory.md, spec/10_state.md),
and taking a fault (spec/60_exceptions.md R169). A handler is a function to `Except Fault State`: a fault discards
everything its step did (R169), so it carries no state. The core has no return from a fault (R172). -/

namespace Sys2Proof.Machine

/-- The outcome of a handler, as the host reads it. -/
def finish : Except Fault State → Host.Outcome State Fault Refusal
  | .ok s => .next s
  | .error f => .fault f

/-- `raise Fault(kind, value)` (R7). -/
def raise {α : Type} (f : Fault) : Except Fault α := .error f

/-- What a fault does to the state (R169): the state before the step, with the status Faulted. -/
def State.takeFault (s : State) (f : Fault) : State := { s with status := .faulted f }

/-- The numeric code of a fault (R165). -/
def Fault.code : Fault → Nat
  | .outOfRange _ => 0
  | .reserved _ => 1
  | .unimplemented _ => 2

/-- The value a fault records (R165): the 16-bit address accessed or the 8-bit opcode. -/
def Fault.value : Fault → Nat
  | .outOfRange a => a.toNat
  | .reserved op => op.toNat
  | .unimplemented op => op.toNat

/-! ## Memory as data -/

/-- What an address with no cell reads as. DESIGN CHOICE (log entry 2): the spec leaves INITIAL_MEMORY open (R30, D28). -/
def Memory.unlisted : Byte := 0x00

/-- The canonical form: addresses strictly rising, no cell equal to what an unlisted address reads as. -/
def Memory.wf : Memory → Bool
  | [] => true
  | (a, v) :: m => v != Memory.unlisted && m.all (fun x => decide (a < x.1)) && Memory.wf m

/-- The byte at an address. -/
def Memory.read : Memory → Nat → Byte
  | [], _ => Memory.unlisted
  | (b, w) :: m, a => if b = a then w else Memory.read m a

/-- Sets the byte at an address and keeps the canonical form. -/
def Memory.write : Memory → Nat → Byte → Memory
  | [], a, v => if v = Memory.unlisted then [] else [(a, v)]
  | (b, w) :: m, a, v =>
    if a < b then if v = Memory.unlisted then (b, w) :: m else (a, v) :: (b, w) :: m
    else if a = b then if v = Memory.unlisted then m else (a, v) :: m
    else (b, w) :: Memory.write m a v

/-! ## Memory accesses (R34 to R38) -/

/-- `MemRead(addr, 1)` (R34, R35). -/
def readByte (s : State) (addr : Word) : Except Fault Byte :=
  if addr.toNat < s.cfg.memSize then .ok (Memory.read s.mem addr.toNat) else raise (.outOfRange addr)

/-- `MemWrite(addr, 1, v)` (R34, R36). -/
def writeByte (s : State) (addr : Word) (v : Byte) : Except Fault State :=
  if addr.toNat < s.cfg.memSize then .ok { s with mem := Memory.write s.mem addr.toNat v } else raise (.outOfRange addr)

/-- `MemRead(addr, 2)` (R37): little-endian, the low byte first. -/
def readWord (s : State) (addr : Word) : Except Fault Word := do
  let lo ← readByte s addr
  let hi ← readByte s (addr + 1)
  .ok (joinBytes hi lo)

/-- `MemWrite(addr, 2, v)` (R38): little-endian, the low byte first. -/
def writeWord (s : State) (addr : Word) (v : Word) : Except Fault State := do
  let s ← writeByte s addr (loByte v)
  writeByte s (addr + 1) (hiByte v)

/-! ## Register pairs (R16, R17) -/

/-- The pair AF. -/
def State.af (s : State) : Word := joinBytes s.a s.f

/-- The pair BC. -/
def State.bc (s : State) : Word := joinBytes s.b s.c

/-- The pair DE. -/
def State.de (s : State) : Word := joinBytes s.d s.e

/-- The pair HL. -/
def State.hl (s : State) : Word := joinBytes s.h s.l

/-- A write of AF: the low four bits of the value are discarded (R17). -/
def State.setAF (s : State) (v : Word) : State := { s with a := hiByte v, f := loByte v &&& 0xF0 }

/-- A write of BC. -/
def State.setBC (s : State) (v : Word) : State := { s with b := hiByte v, c := loByte v }

/-- A write of DE. -/
def State.setDE (s : State) (v : Word) : State := { s with d := hiByte v, e := loByte v }

/-- A write of HL. -/
def State.setHL (s : State) (v : Word) : State := { s with h := hiByte v, l := loByte v }

/-- A write of SP (R20). -/
def State.setSP (s : State) (v : Word) : State := { s with sp := v }

/-- A write of PC (R19). -/
def State.setPC (s : State) (v : Word) : State := { s with pc := v }

/-- A write of A (R15). -/
def State.setA (s : State) (v : Byte) : State := { s with a := v }

/-! ## The stack (R43 to R45) -/

/-- `Push16(v)` (R44): the high byte at SP - 1, then the low byte at SP - 2. -/
def push16 (s : State) (v : Word) : Except Fault State := do
  let s := s.setSP (s.sp - 1)
  let s ← writeByte s s.sp (hiByte v)
  let s := s.setSP (s.sp - 1)
  writeByte s s.sp (loByte v)

/-- `Pop16()` (R45): the low byte at SP, then the high byte at SP + 1. -/
def pop16 (s : State) : Except Fault (Word × State) := do
  let lo ← readByte s s.sp
  let s := s.setSP (s.sp + 1)
  let hi ← readByte s s.sp
  let s := s.setSP (s.sp + 1)
  .ok (joinBytes hi lo, s)

end Sys2Proof.Machine
end

