-- ==== Sys2Proof/Machine/Flags.lean ====
section
/-! DEFINITION. The arithmetic and bit helpers (spec/00_scope.md R9 to R14) and the flag register (spec/10_state.md R21,
R22). -/

namespace Sys2Proof.Machine

/-! ## Bit helpers (R9) -/

/-- `get_bit(v, i)`. -/
def getBit {w : Nat} (v : BitVec w) (i : Nat) : Bool := v.getLsbD i

/-- `set_bit(v, i)`. -/
def setBit {w : Nat} (v : BitVec w) (i : Nat) : BitVec w := v ||| (1#w <<< i)

/-- `clear_bit(v, i)`. -/
def clearBit {w : Nat} (v : BitVec w) (i : Nat) : BitVec w := v &&& ~~~(1#w <<< i)

/-- `assign_bit(v, i, b)`. -/
def assignBit {w : Nat} (v : BitVec w) (i : Nat) (b : Bool) : BitVec w := if b then setBit v i else clearBit v i

/-- A truth value as a byte: 1 or 0 (R6). -/
def boolByte (b : Bool) : Byte := if b then 1 else 0

/-! ## Half-carry, carry and borrow (R10 to R14) -/

/-- `check_half_carry_add(a, b)` (R10). -/
def halfCarryAdd (a b : Byte) : Bool := ((a &&& 0x0F).toNat + (b &&& 0x0F).toNat).testBit 4

/-- `check_half_carry_sub(a, b)` (R11). -/
def halfCarrySub (a b : Byte) : Bool := getBit ((a &&& 0x0F) - (b &&& 0x0F)) 4

/-- `check_half_carry_wide_add(a, b)` (R12). -/
def halfCarryWideAdd (a b : Word) : Bool := ((a &&& 0x0FFF).toNat + (b &&& 0x0FFF).toNat).testBit 12

/-- `check_half_carry_wide_sub(a, b)` (R12); no instruction uses it. -/
def halfCarryWideSub (a b : Word) : Bool := decide ((a &&& 0x0FFF).toNat < (b &&& 0x0FFF).toNat)

/-- `hc_adc(a, b, c)` (R13). -/
def hcAdc (a b : Byte) (c : Bool) : Bool := decide ((a &&& 0x0F).toNat + (b &&& 0x0F).toNat + c.toNat > 0x0F)

/-- `hb_sbc(a, b, c)` (R13). -/
def hbSbc (a b : Byte) (c : Bool) : Bool := decide ((a &&& 0x0F).toNat < (b &&& 0x0F).toNat + c.toNat)

/-- `carry8(a, b, c)` (R14). -/
def carry8 (a b : Byte) (c : Bool) : Bool := decide (a.toNat + b.toNat + c.toNat > 0xFF)

/-- `borrow8(a, b, c)` (R14). -/
def borrow8 (a b : Byte) (c : Bool) : Bool := decide (a.toNat < b.toNat + c.toNat)

/-- `carry16(a, b)` (R14). -/
def carry16 (a b : Word) : Bool := decide (a.toNat + b.toNat > 0xFFFF)

/-! ## The flag register (R21, R22) -/

/-- The flags by name. -/
inductive Flag where
  | z | n | h | c
deriving DecidableEq, Repr

/-- A flag's bit of F (R21). -/
def flagBit : Flag → Nat
  | .z => 7
  | .n => 6
  | .h => 5
  | .c => 4

/-- `F.f <- b` (R22): sets the flag's bit, keeps the other three, zeroes F[3:0] again. -/
def writeFlag (f : Byte) (k : Flag) (b : Bool) : Byte := assignBit f (flagBit k) b &&& 0xF0

/-- A flag of the state. -/
def State.flag (s : State) (k : Flag) : Bool := getBit s.f (flagBit k)

/-- Writes the named flags in one step (R22); a flag not named keeps its value (R8). -/
def State.writeFlags (s : State) (ws : List (Flag × Bool)) : State :=
  { s with f := ws.foldl (fun f w => writeFlag f w.1 w.2) s.f }

/-- The byte F with the given flags (R21): Z N H C in bits 7..4, bits 3..0 zero. -/
def flagsByte (z n h c : Bool) : Byte :=
  (boolByte z <<< 7) ||| (boolByte n <<< 6) ||| (boolByte h <<< 5) ||| (boolByte c <<< 4)

/-- A condition code (R143). -/
def condHolds (s : State) : Cond → Bool
  | .nz => !s.flag .z
  | .z => s.flag .z
  | .nc => !s.flag .c
  | .c => s.flag .c

end Sys2Proof.Machine
end

