-- ==== Sys2Proof/Machine/Operands.lean ====
section
/-! DEFINITION. Operand forms: sign extension (spec/00_scope.md R6), the near address (spec/20_memory.md R33), the r, rr
and qq operands (spec/30_encoding.md R56, R58) and the addressing modes (spec/44_loads.md R119). -/

namespace Sys2Proof.Machine

/-- `zext_16(v8)` (R6). -/
def zext16 (v : Byte) : Word := v.zeroExtend 16

/-- `sext_16(v8)` (R6): the value, plus 0xFF00 when bit 7 is set. -/
def sext16 (v : Byte) : Word := if getBit v 7 then zext16 v + 0xFF00 else zext16 v

/-- `near(o8)` (R33). -/
def near (o : Byte) : Word := nearBase + zext16 o

/-- Reads an 8-bit operand with an r code (R58). -/
def readR8 (s : State) : R8 → Except Fault Byte
  | .b => .ok s.b
  | .c => .ok s.c
  | .d => .ok s.d
  | .e => .ok s.e
  | .h => .ok s.h
  | .l => .ok s.l
  | .atHL => readByte s s.hl
  | .a => .ok s.a

/-- Writes an 8-bit operand with an r code (R58). -/
def writeR8 (s : State) (r : R8) (v : Byte) : Except Fault State :=
  match r with
  | .b => .ok { s with b := v }
  | .c => .ok { s with c := v }
  | .d => .ok { s with d := v }
  | .e => .ok { s with e := v }
  | .h => .ok { s with h := v }
  | .l => .ok { s with l := v }
  | .atHL => writeByte s s.hl v
  | .a => .ok { s with a := v }

/-- Reads a pair or SP with an rr code (R56). -/
def readRR (s : State) : RR → Word
  | .bc => s.bc
  | .de => s.de
  | .hl => s.hl
  | .sp => s.sp

/-- Writes a pair or SP with an rr code (R56). -/
def writeRR (s : State) (p : RR) (v : Word) : State :=
  match p with
  | .bc => s.setBC v
  | .de => s.setDE v
  | .hl => s.setHL v
  | .sp => s.setSP v

/-- Reads a pair with a qq code (R56). -/
def readQQ (s : State) : QQ → Word
  | .bc => s.bc
  | .de => s.de
  | .hl => s.hl
  | .af => s.af

/-- Writes a pair with a qq code (R56); AF as R17 says. -/
def writeQQ (s : State) (q : QQ) (v : Word) : State :=
  match q with
  | .bc => s.setBC v
  | .de => s.setDE v
  | .hl => s.setHL v
  | .af => s.setAF v

/-- The effective address of an indirect A load: (BC), (DE), (HL+) or (HL-) (R119). -/
def indAddr (s : State) : Ind → Word
  | .bc => s.bc
  | .de => s.de
  | .hlInc => s.hl
  | .hlDec => s.hl

/-- The base update after the access (R119). -/
def indUpdate (s : State) : Ind → State
  | .bc => s
  | .de => s
  | .hlInc => s.setHL (s.hl + 1)
  | .hlDec => s.setHL (s.hl - 1)

end Sys2Proof.Machine
end

