-- ==== Sys2Proof/Machine/Alu.lean ====
section
/-! DEFINITION. 8-bit ALU, 16-bit add, decimal adjust, flag instructions (spec/42_alu.md): the shared operations, then one meaning per row. -/

namespace Sys2Proof.Machine

/-- ADD A,s (R78). -/
def addA (v : Byte) (s : State) : State :=
  let res := s.a + v
  (s.setA res).writeFlags [(.z, res == 0), (.n, false), (.h, halfCarryAdd s.a v), (.c, carry8 s.a v false)]

/-- ADC A,s (R79). -/
def adcA (v : Byte) (s : State) : State :=
  let c := s.flag .c
  let res := s.a + v + boolByte c
  (s.setA res).writeFlags [(.z, res == 0), (.n, false), (.h, hcAdc s.a v c), (.c, carry8 s.a v c)]

/-- SUB A,s (R80). -/
def subA (v : Byte) (s : State) : State :=
  let res := s.a - v
  (s.setA res).writeFlags [(.z, res == 0), (.n, true), (.h, halfCarrySub s.a v), (.c, borrow8 s.a v false)]

/-- SBC A,s (R81). -/
def sbcA (v : Byte) (s : State) : State :=
  let c := s.flag .c
  let res := s.a - v - boolByte c
  (s.setA res).writeFlags [(.z, res == 0), (.n, true), (.h, hbSbc s.a v c), (.c, borrow8 s.a v c)]

/-- AND A,s (R82). -/
def andA (v : Byte) (s : State) : State :=
  let res := s.a &&& v
  (s.setA res).writeFlags [(.z, res == 0), (.n, false), (.h, true), (.c, false)]

/-- XOR A,s (R83). -/
def xorA (v : Byte) (s : State) : State :=
  let res := s.a ^^^ v
  (s.setA res).writeFlags [(.z, res == 0), (.n, false), (.h, false), (.c, false)]

/-- OR A,s (R84). -/
def orA (v : Byte) (s : State) : State :=
  let res := s.a ||| v
  (s.setA res).writeFlags [(.z, res == 0), (.n, false), (.h, false), (.c, false)]

/-- CP A,s (R85): the flags of SUB, A not written. -/
def cpA (v : Byte) (s : State) : State :=
  let res := s.a - v
  s.writeFlags [(.z, res == 0), (.n, true), (.h, halfCarrySub s.a v), (.c, borrow8 s.a v false)]

/-- The ALU operation with an ALU operation code, on the second operand `v` (R77). -/
def aluOp : AluOp → Byte → State → State
  | .add => addA
  | .adc => adcA
  | .sub => subA
  | .sbc => sbcA
  | .and => andA
  | .xor => xorA
  | .or => orA
  | .cp => cpA

/-- ALU A,r and ALU A,(HL) (R77). -/
def aluR8 (o : AluOp) (r : R8) (s : State) : Except Fault State := do
  let v ← readR8 s r
  .ok (aluOp o v s)

/-- ALU A,d8 (R77). -/
def aluImm (o : AluOp) (n : Byte) (s : State) : Except Fault State := .ok (aluOp o n s)

/-- ADD HL,rr (R86): N = 0, H and C written, Z kept. -/
def addHL (p : RR) (s : State) : Except Fault State :=
  let h := s.hl
  let v := readRR s p
  .ok ((s.setHL (h + v)).writeFlags [(.n, false), (.h, halfCarryWideAdd h v), (.c, carry16 h v)])

/-- The flags of ADD SP,e8 and LD HL,SP+e8 (R87, R140): Z = 0, N = 0, H and C from the unsigned sum of SP's low byte
and the offset byte. -/
def spOffsetFlags (sp : Word) (u : Byte) : List (Flag × Bool) :=
  [(.z, false), (.n, false), (.h, halfCarryAdd (loByte sp) u), (.c, carry8 (loByte sp) u false)]

/-- ADD SP,e8 (R87). -/
def addSP (e : Byte) (s : State) : Except Fault State :=
  .ok ((s.setSP (s.sp + sext16 e)).writeFlags (spOffsetFlags s.sp e))

/-- The `document` algorithm of DAA (R88): the new A and C from A, H and C. N is not read. -/
def daaDocument (a : Byte) (h c : Bool) : Byte × Bool :=
  let a := if h || decide ((a &&& 0x0F).toNat > 9) then a + 0x06 else a
  if c || decide ((a >>> 4).toNat > 9) then (a + 0x60, true) else (a, false)

/-- The `sm83` algorithm of DAA (R88): the new A and C from A, N, H and C. -/
def daaSm83 (a : Byte) (n h c : Bool) : Byte × Bool :=
  if n then
    let a := if c then a - 0x60 else a
    (if h then a - 0x06 else a, c)
  else
    let high := c || decide (a.toNat > 0x99)
    let a := if high then a + 0x60 else a
    (if h || decide ((a &&& 0x0F).toNat > 9) then a + 0x06 else a, high)

/-- DAA under the machine's DAA_ALGORITHM (R5, R88). -/
def daaResult (s : State) : Byte × Bool :=
  match s.cfg.daa with
  | .document => daaDocument s.a (s.flag .h) (s.flag .c)
  | .sm83 => daaSm83 s.a (s.flag .n) (s.flag .h) (s.flag .c)

/-- DAA (R88): Z and C written, H = 0, N kept. -/
def decimalAdjust (s : State) : Except Fault State :=
  let r := daaResult s
  .ok ((s.setA r.1).writeFlags [(.z, r.1 == 0), (.h, false), (.c, r.2)])

/-- CPL (R89). -/
def complementA (s : State) : Except Fault State := .ok ((s.setA (~~~s.a)).writeFlags [(.n, true), (.h, true)])

/-- SCF (R90). -/
def setCarry (s : State) : Except Fault State := .ok (s.writeFlags [(.n, false), (.h, false), (.c, true)])

/-- CCF (R91). -/
def complementCarry (s : State) : Except Fault State :=
  .ok (s.writeFlags [(.n, false), (.h, false), (.c, !s.flag .c)])

/-! ## One meaning per row -/

/-- ADD A,B (R78). -/
def execAddA_B (s : State) : Host.Outcome State Fault Refusal := finish (aluR8 .add .b s)

/-- ADD A,C (R78). -/
def execAddA_C (s : State) : Host.Outcome State Fault Refusal := finish (aluR8 .add .c s)

/-- ADD A,D (R78). -/
def execAddA_D (s : State) : Host.Outcome State Fault Refusal := finish (aluR8 .add .d s)

/-- ADD A,E (R78). -/
def execAddA_E (s : State) : Host.Outcome State Fault Refusal := finish (aluR8 .add .e s)

/-- ADD A,H (R78). -/
def execAddA_H (s : State) : Host.Outcome State Fault Refusal := finish (aluR8 .add .h s)

/-- ADD A,L (R78). -/
def execAddA_L (s : State) : Host.Outcome State Fault Refusal := finish (aluR8 .add .l s)

/-- ADD A,(HL) (R78). -/
def execAddA_atHL (s : State) : Host.Outcome State Fault Refusal := finish (aluR8 .add .atHL s)

/-- ADD A,A (R78). -/
def execAddA_A (s : State) : Host.Outcome State Fault Refusal := finish (aluR8 .add .a s)

/-- ADD A,d8 (R78). -/
def execAddA_d8 (n : Byte) (s : State) : Host.Outcome State Fault Refusal := finish (aluImm .add n s)

/-- ADC A,B (R79). -/
def execAdcA_B (s : State) : Host.Outcome State Fault Refusal := finish (aluR8 .adc .b s)

/-- ADC A,C (R79). -/
def execAdcA_C (s : State) : Host.Outcome State Fault Refusal := finish (aluR8 .adc .c s)

/-- ADC A,D (R79). -/
def execAdcA_D (s : State) : Host.Outcome State Fault Refusal := finish (aluR8 .adc .d s)

/-- ADC A,E (R79). -/
def execAdcA_E (s : State) : Host.Outcome State Fault Refusal := finish (aluR8 .adc .e s)

/-- ADC A,H (R79). -/
def execAdcA_H (s : State) : Host.Outcome State Fault Refusal := finish (aluR8 .adc .h s)

/-- ADC A,L (R79). -/
def execAdcA_L (s : State) : Host.Outcome State Fault Refusal := finish (aluR8 .adc .l s)

/-- ADC A,(HL) (R79). -/
def execAdcA_atHL (s : State) : Host.Outcome State Fault Refusal := finish (aluR8 .adc .atHL s)

/-- ADC A,A (R79). -/
def execAdcA_A (s : State) : Host.Outcome State Fault Refusal := finish (aluR8 .adc .a s)

/-- ADC A,d8 (R79). -/
def execAdcA_d8 (n : Byte) (s : State) : Host.Outcome State Fault Refusal := finish (aluImm .adc n s)

/-- SUB A,B (R80). -/
def execSubA_B (s : State) : Host.Outcome State Fault Refusal := finish (aluR8 .sub .b s)

/-- SUB A,C (R80). -/
def execSubA_C (s : State) : Host.Outcome State Fault Refusal := finish (aluR8 .sub .c s)

/-- SUB A,D (R80). -/
def execSubA_D (s : State) : Host.Outcome State Fault Refusal := finish (aluR8 .sub .d s)

/-- SUB A,E (R80). -/
def execSubA_E (s : State) : Host.Outcome State Fault Refusal := finish (aluR8 .sub .e s)

/-- SUB A,H (R80). -/
def execSubA_H (s : State) : Host.Outcome State Fault Refusal := finish (aluR8 .sub .h s)

/-- SUB A,L (R80). -/
def execSubA_L (s : State) : Host.Outcome State Fault Refusal := finish (aluR8 .sub .l s)

/-- SUB A,(HL) (R80). -/
def execSubA_atHL (s : State) : Host.Outcome State Fault Refusal := finish (aluR8 .sub .atHL s)

/-- SUB A,A (R80). -/
def execSubA_A (s : State) : Host.Outcome State Fault Refusal := finish (aluR8 .sub .a s)

/-- SUB A,d8 (R80). -/
def execSubA_d8 (n : Byte) (s : State) : Host.Outcome State Fault Refusal := finish (aluImm .sub n s)

/-- SBC A,B (R81). -/
def execSbcA_B (s : State) : Host.Outcome State Fault Refusal := finish (aluR8 .sbc .b s)

/-- SBC A,C (R81). -/
def execSbcA_C (s : State) : Host.Outcome State Fault Refusal := finish (aluR8 .sbc .c s)

/-- SBC A,D (R81). -/
def execSbcA_D (s : State) : Host.Outcome State Fault Refusal := finish (aluR8 .sbc .d s)

/-- SBC A,E (R81). -/
def execSbcA_E (s : State) : Host.Outcome State Fault Refusal := finish (aluR8 .sbc .e s)

/-- SBC A,H (R81). -/
def execSbcA_H (s : State) : Host.Outcome State Fault Refusal := finish (aluR8 .sbc .h s)

/-- SBC A,L (R81). -/
def execSbcA_L (s : State) : Host.Outcome State Fault Refusal := finish (aluR8 .sbc .l s)

/-- SBC A,(HL) (R81). -/
def execSbcA_atHL (s : State) : Host.Outcome State Fault Refusal := finish (aluR8 .sbc .atHL s)

/-- SBC A,A (R81). -/
def execSbcA_A (s : State) : Host.Outcome State Fault Refusal := finish (aluR8 .sbc .a s)

/-- SBC A,d8 (R81). -/
def execSbcA_d8 (n : Byte) (s : State) : Host.Outcome State Fault Refusal := finish (aluImm .sbc n s)

/-- AND A,B (R82). -/
def execAndA_B (s : State) : Host.Outcome State Fault Refusal := finish (aluR8 .and .b s)

/-- AND A,C (R82). -/
def execAndA_C (s : State) : Host.Outcome State Fault Refusal := finish (aluR8 .and .c s)

/-- AND A,D (R82). -/
def execAndA_D (s : State) : Host.Outcome State Fault Refusal := finish (aluR8 .and .d s)

/-- AND A,E (R82). -/
def execAndA_E (s : State) : Host.Outcome State Fault Refusal := finish (aluR8 .and .e s)

/-- AND A,H (R82). -/
def execAndA_H (s : State) : Host.Outcome State Fault Refusal := finish (aluR8 .and .h s)

/-- AND A,L (R82). -/
def execAndA_L (s : State) : Host.Outcome State Fault Refusal := finish (aluR8 .and .l s)

/-- AND A,(HL) (R82). -/
def execAndA_atHL (s : State) : Host.Outcome State Fault Refusal := finish (aluR8 .and .atHL s)

/-- AND A,A (R82). -/
def execAndA_A (s : State) : Host.Outcome State Fault Refusal := finish (aluR8 .and .a s)

/-- AND A,d8 (R82). -/
def execAndA_d8 (n : Byte) (s : State) : Host.Outcome State Fault Refusal := finish (aluImm .and n s)

/-- XOR A,B (R83). -/
def execXorA_B (s : State) : Host.Outcome State Fault Refusal := finish (aluR8 .xor .b s)

/-- XOR A,C (R83). -/
def execXorA_C (s : State) : Host.Outcome State Fault Refusal := finish (aluR8 .xor .c s)

/-- XOR A,D (R83). -/
def execXorA_D (s : State) : Host.Outcome State Fault Refusal := finish (aluR8 .xor .d s)

/-- XOR A,E (R83). -/
def execXorA_E (s : State) : Host.Outcome State Fault Refusal := finish (aluR8 .xor .e s)

/-- XOR A,H (R83). -/
def execXorA_H (s : State) : Host.Outcome State Fault Refusal := finish (aluR8 .xor .h s)

/-- XOR A,L (R83). -/
def execXorA_L (s : State) : Host.Outcome State Fault Refusal := finish (aluR8 .xor .l s)

/-- XOR A,(HL) (R83). -/
def execXorA_atHL (s : State) : Host.Outcome State Fault Refusal := finish (aluR8 .xor .atHL s)

/-- XOR A,A (R83). -/
def execXorA_A (s : State) : Host.Outcome State Fault Refusal := finish (aluR8 .xor .a s)

/-- XOR A,d8 (R83). -/
def execXorA_d8 (n : Byte) (s : State) : Host.Outcome State Fault Refusal := finish (aluImm .xor n s)

/-- OR A,B (R84). -/
def execOrA_B (s : State) : Host.Outcome State Fault Refusal := finish (aluR8 .or .b s)

/-- OR A,C (R84). -/
def execOrA_C (s : State) : Host.Outcome State Fault Refusal := finish (aluR8 .or .c s)

/-- OR A,D (R84). -/
def execOrA_D (s : State) : Host.Outcome State Fault Refusal := finish (aluR8 .or .d s)

/-- OR A,E (R84). -/
def execOrA_E (s : State) : Host.Outcome State Fault Refusal := finish (aluR8 .or .e s)

/-- OR A,H (R84). -/
def execOrA_H (s : State) : Host.Outcome State Fault Refusal := finish (aluR8 .or .h s)

/-- OR A,L (R84). -/
def execOrA_L (s : State) : Host.Outcome State Fault Refusal := finish (aluR8 .or .l s)

/-- OR A,(HL) (R84). -/
def execOrA_atHL (s : State) : Host.Outcome State Fault Refusal := finish (aluR8 .or .atHL s)

/-- OR A,A (R84). -/
def execOrA_A (s : State) : Host.Outcome State Fault Refusal := finish (aluR8 .or .a s)

/-- OR A,d8 (R84). -/
def execOrA_d8 (n : Byte) (s : State) : Host.Outcome State Fault Refusal := finish (aluImm .or n s)

/-- CP A,B (R85). -/
def execCpA_B (s : State) : Host.Outcome State Fault Refusal := finish (aluR8 .cp .b s)

/-- CP A,C (R85). -/
def execCpA_C (s : State) : Host.Outcome State Fault Refusal := finish (aluR8 .cp .c s)

/-- CP A,D (R85). -/
def execCpA_D (s : State) : Host.Outcome State Fault Refusal := finish (aluR8 .cp .d s)

/-- CP A,E (R85). -/
def execCpA_E (s : State) : Host.Outcome State Fault Refusal := finish (aluR8 .cp .e s)

/-- CP A,H (R85). -/
def execCpA_H (s : State) : Host.Outcome State Fault Refusal := finish (aluR8 .cp .h s)

/-- CP A,L (R85). -/
def execCpA_L (s : State) : Host.Outcome State Fault Refusal := finish (aluR8 .cp .l s)

/-- CP A,(HL) (R85). -/
def execCpA_atHL (s : State) : Host.Outcome State Fault Refusal := finish (aluR8 .cp .atHL s)

/-- CP A,A (R85). -/
def execCpA_A (s : State) : Host.Outcome State Fault Refusal := finish (aluR8 .cp .a s)

/-- CP A,d8 (R85). -/
def execCpA_d8 (n : Byte) (s : State) : Host.Outcome State Fault Refusal := finish (aluImm .cp n s)

/-- ADD HL,BC (R86). -/
def execAddHL_BC (s : State) : Host.Outcome State Fault Refusal := finish (addHL .bc s)

/-- ADD HL,DE (R86). -/
def execAddHL_DE (s : State) : Host.Outcome State Fault Refusal := finish (addHL .de s)

/-- ADD HL,HL (R86). -/
def execAddHL_HL (s : State) : Host.Outcome State Fault Refusal := finish (addHL .hl s)

/-- ADD HL,SP (R86). -/
def execAddHL_SP (s : State) : Host.Outcome State Fault Refusal := finish (addHL .sp s)

/-- ADD SP,e8 (R87). -/
def execAddSP_e8 (e : Byte) (s : State) : Host.Outcome State Fault Refusal := finish (addSP e s)

/-- DAA (R88). -/
def execDaa (s : State) : Host.Outcome State Fault Refusal := finish (decimalAdjust s)

/-- CPL (R89). -/
def execCpl (s : State) : Host.Outcome State Fault Refusal := finish (complementA s)

/-- SCF (R90). -/
def execScf (s : State) : Host.Outcome State Fault Refusal := finish (setCarry s)

/-- CCF (R91). -/
def execCcf (s : State) : Host.Outcome State Fault Refusal := finish (complementCarry s)

end Sys2Proof.Machine
end

