-- ==== Sys2Proof/Machine/Bits.lean ====
section
/-! DEFINITION. Single-bit instructions (spec/43_rotate_shift_bit.md section 5): the shared operations, then one meaning per row. -/

namespace Sys2Proof.Machine

/-- BIT b,r and BIT b,(HL) (R113, R114): Z the inverse of the bit, N = 0, H = 1, C kept. -/
def bitTest (i : Fin 8) (r : R8) (s : State) : Except Fault State := do
  let v ← readR8 s r
  .ok (s.writeFlags [(.z, !getBit v i.val), (.n, false), (.h, true)])

/-- RES b,r and RES b,(HL) (R115, R116): no flag. -/
def bitReset (i : Fin 8) (r : R8) (s : State) : Except Fault State := do
  let v ← readR8 s r
  writeR8 s r (clearBit v i.val)

/-- SET b,r and SET b,(HL) (R117, R118): no flag. -/
def bitSet (i : Fin 8) (r : R8) (s : State) : Except Fault State := do
  let v ← readR8 s r
  writeR8 s r (setBit v i.val)

/-! ## One meaning per row -/

/-- BIT 0,B (R113). -/
def execBit0_B (s : State) : Host.Outcome State Fault Refusal := finish (bitTest 0 .b s)

/-- BIT 0,C (R113). -/
def execBit0_C (s : State) : Host.Outcome State Fault Refusal := finish (bitTest 0 .c s)

/-- BIT 0,D (R113). -/
def execBit0_D (s : State) : Host.Outcome State Fault Refusal := finish (bitTest 0 .d s)

/-- BIT 0,E (R113). -/
def execBit0_E (s : State) : Host.Outcome State Fault Refusal := finish (bitTest 0 .e s)

/-- BIT 0,H (R113). -/
def execBit0_H (s : State) : Host.Outcome State Fault Refusal := finish (bitTest 0 .h s)

/-- BIT 0,L (R113). -/
def execBit0_L (s : State) : Host.Outcome State Fault Refusal := finish (bitTest 0 .l s)

/-- BIT 0,A (R113). -/
def execBit0_A (s : State) : Host.Outcome State Fault Refusal := finish (bitTest 0 .a s)

/-- BIT 1,B (R113). -/
def execBit1_B (s : State) : Host.Outcome State Fault Refusal := finish (bitTest 1 .b s)

/-- BIT 1,C (R113). -/
def execBit1_C (s : State) : Host.Outcome State Fault Refusal := finish (bitTest 1 .c s)

/-- BIT 1,D (R113). -/
def execBit1_D (s : State) : Host.Outcome State Fault Refusal := finish (bitTest 1 .d s)

/-- BIT 1,E (R113). -/
def execBit1_E (s : State) : Host.Outcome State Fault Refusal := finish (bitTest 1 .e s)

/-- BIT 1,H (R113). -/
def execBit1_H (s : State) : Host.Outcome State Fault Refusal := finish (bitTest 1 .h s)

/-- BIT 1,L (R113). -/
def execBit1_L (s : State) : Host.Outcome State Fault Refusal := finish (bitTest 1 .l s)

/-- BIT 1,A (R113). -/
def execBit1_A (s : State) : Host.Outcome State Fault Refusal := finish (bitTest 1 .a s)

/-- BIT 2,B (R113). -/
def execBit2_B (s : State) : Host.Outcome State Fault Refusal := finish (bitTest 2 .b s)

/-- BIT 2,C (R113). -/
def execBit2_C (s : State) : Host.Outcome State Fault Refusal := finish (bitTest 2 .c s)

/-- BIT 2,D (R113). -/
def execBit2_D (s : State) : Host.Outcome State Fault Refusal := finish (bitTest 2 .d s)

/-- BIT 2,E (R113). -/
def execBit2_E (s : State) : Host.Outcome State Fault Refusal := finish (bitTest 2 .e s)

/-- BIT 2,H (R113). -/
def execBit2_H (s : State) : Host.Outcome State Fault Refusal := finish (bitTest 2 .h s)

/-- BIT 2,L (R113). -/
def execBit2_L (s : State) : Host.Outcome State Fault Refusal := finish (bitTest 2 .l s)

/-- BIT 2,A (R113). -/
def execBit2_A (s : State) : Host.Outcome State Fault Refusal := finish (bitTest 2 .a s)

/-- BIT 3,B (R113). -/
def execBit3_B (s : State) : Host.Outcome State Fault Refusal := finish (bitTest 3 .b s)

/-- BIT 3,C (R113). -/
def execBit3_C (s : State) : Host.Outcome State Fault Refusal := finish (bitTest 3 .c s)

/-- BIT 3,D (R113). -/
def execBit3_D (s : State) : Host.Outcome State Fault Refusal := finish (bitTest 3 .d s)

/-- BIT 3,E (R113). -/
def execBit3_E (s : State) : Host.Outcome State Fault Refusal := finish (bitTest 3 .e s)

/-- BIT 3,H (R113). -/
def execBit3_H (s : State) : Host.Outcome State Fault Refusal := finish (bitTest 3 .h s)

/-- BIT 3,L (R113). -/
def execBit3_L (s : State) : Host.Outcome State Fault Refusal := finish (bitTest 3 .l s)

/-- BIT 3,A (R113). -/
def execBit3_A (s : State) : Host.Outcome State Fault Refusal := finish (bitTest 3 .a s)

/-- BIT 4,B (R113). -/
def execBit4_B (s : State) : Host.Outcome State Fault Refusal := finish (bitTest 4 .b s)

/-- BIT 4,C (R113). -/
def execBit4_C (s : State) : Host.Outcome State Fault Refusal := finish (bitTest 4 .c s)

/-- BIT 4,D (R113). -/
def execBit4_D (s : State) : Host.Outcome State Fault Refusal := finish (bitTest 4 .d s)

/-- BIT 4,E (R113). -/
def execBit4_E (s : State) : Host.Outcome State Fault Refusal := finish (bitTest 4 .e s)

/-- BIT 4,H (R113). -/
def execBit4_H (s : State) : Host.Outcome State Fault Refusal := finish (bitTest 4 .h s)

/-- BIT 4,L (R113). -/
def execBit4_L (s : State) : Host.Outcome State Fault Refusal := finish (bitTest 4 .l s)

/-- BIT 4,A (R113). -/
def execBit4_A (s : State) : Host.Outcome State Fault Refusal := finish (bitTest 4 .a s)

/-- BIT 5,B (R113). -/
def execBit5_B (s : State) : Host.Outcome State Fault Refusal := finish (bitTest 5 .b s)

/-- BIT 5,C (R113). -/
def execBit5_C (s : State) : Host.Outcome State Fault Refusal := finish (bitTest 5 .c s)

/-- BIT 5,D (R113). -/
def execBit5_D (s : State) : Host.Outcome State Fault Refusal := finish (bitTest 5 .d s)

/-- BIT 5,E (R113). -/
def execBit5_E (s : State) : Host.Outcome State Fault Refusal := finish (bitTest 5 .e s)

/-- BIT 5,H (R113). -/
def execBit5_H (s : State) : Host.Outcome State Fault Refusal := finish (bitTest 5 .h s)

/-- BIT 5,L (R113). -/
def execBit5_L (s : State) : Host.Outcome State Fault Refusal := finish (bitTest 5 .l s)

/-- BIT 5,A (R113). -/
def execBit5_A (s : State) : Host.Outcome State Fault Refusal := finish (bitTest 5 .a s)

/-- BIT 6,B (R113). -/
def execBit6_B (s : State) : Host.Outcome State Fault Refusal := finish (bitTest 6 .b s)

/-- BIT 6,C (R113). -/
def execBit6_C (s : State) : Host.Outcome State Fault Refusal := finish (bitTest 6 .c s)

/-- BIT 6,D (R113). -/
def execBit6_D (s : State) : Host.Outcome State Fault Refusal := finish (bitTest 6 .d s)

/-- BIT 6,E (R113). -/
def execBit6_E (s : State) : Host.Outcome State Fault Refusal := finish (bitTest 6 .e s)

/-- BIT 6,H (R113). -/
def execBit6_H (s : State) : Host.Outcome State Fault Refusal := finish (bitTest 6 .h s)

/-- BIT 6,L (R113). -/
def execBit6_L (s : State) : Host.Outcome State Fault Refusal := finish (bitTest 6 .l s)

/-- BIT 6,A (R113). -/
def execBit6_A (s : State) : Host.Outcome State Fault Refusal := finish (bitTest 6 .a s)

/-- BIT 7,B (R113). -/
def execBit7_B (s : State) : Host.Outcome State Fault Refusal := finish (bitTest 7 .b s)

/-- BIT 7,C (R113). -/
def execBit7_C (s : State) : Host.Outcome State Fault Refusal := finish (bitTest 7 .c s)

/-- BIT 7,D (R113). -/
def execBit7_D (s : State) : Host.Outcome State Fault Refusal := finish (bitTest 7 .d s)

/-- BIT 7,E (R113). -/
def execBit7_E (s : State) : Host.Outcome State Fault Refusal := finish (bitTest 7 .e s)

/-- BIT 7,H (R113). -/
def execBit7_H (s : State) : Host.Outcome State Fault Refusal := finish (bitTest 7 .h s)

/-- BIT 7,L (R113). -/
def execBit7_L (s : State) : Host.Outcome State Fault Refusal := finish (bitTest 7 .l s)

/-- BIT 7,A (R113). -/
def execBit7_A (s : State) : Host.Outcome State Fault Refusal := finish (bitTest 7 .a s)

/-- BIT 0,(HL) (R114). -/
def execBit0_atHL (s : State) : Host.Outcome State Fault Refusal := finish (bitTest 0 .atHL s)

/-- BIT 1,(HL) (R114). -/
def execBit1_atHL (s : State) : Host.Outcome State Fault Refusal := finish (bitTest 1 .atHL s)

/-- BIT 2,(HL) (R114). -/
def execBit2_atHL (s : State) : Host.Outcome State Fault Refusal := finish (bitTest 2 .atHL s)

/-- BIT 3,(HL) (R114). -/
def execBit3_atHL (s : State) : Host.Outcome State Fault Refusal := finish (bitTest 3 .atHL s)

/-- BIT 4,(HL) (R114). -/
def execBit4_atHL (s : State) : Host.Outcome State Fault Refusal := finish (bitTest 4 .atHL s)

/-- BIT 5,(HL) (R114). -/
def execBit5_atHL (s : State) : Host.Outcome State Fault Refusal := finish (bitTest 5 .atHL s)

/-- BIT 6,(HL) (R114). -/
def execBit6_atHL (s : State) : Host.Outcome State Fault Refusal := finish (bitTest 6 .atHL s)

/-- BIT 7,(HL) (R114). -/
def execBit7_atHL (s : State) : Host.Outcome State Fault Refusal := finish (bitTest 7 .atHL s)

/-- RES 0,B (R115). -/
def execRes0_B (s : State) : Host.Outcome State Fault Refusal := finish (bitReset 0 .b s)

/-- RES 0,C (R115). -/
def execRes0_C (s : State) : Host.Outcome State Fault Refusal := finish (bitReset 0 .c s)

/-- RES 0,D (R115). -/
def execRes0_D (s : State) : Host.Outcome State Fault Refusal := finish (bitReset 0 .d s)

/-- RES 0,E (R115). -/
def execRes0_E (s : State) : Host.Outcome State Fault Refusal := finish (bitReset 0 .e s)

/-- RES 0,H (R115). -/
def execRes0_H (s : State) : Host.Outcome State Fault Refusal := finish (bitReset 0 .h s)

/-- RES 0,L (R115). -/
def execRes0_L (s : State) : Host.Outcome State Fault Refusal := finish (bitReset 0 .l s)

/-- RES 0,A (R115). -/
def execRes0_A (s : State) : Host.Outcome State Fault Refusal := finish (bitReset 0 .a s)

/-- RES 1,B (R115). -/
def execRes1_B (s : State) : Host.Outcome State Fault Refusal := finish (bitReset 1 .b s)

/-- RES 1,C (R115). -/
def execRes1_C (s : State) : Host.Outcome State Fault Refusal := finish (bitReset 1 .c s)

/-- RES 1,D (R115). -/
def execRes1_D (s : State) : Host.Outcome State Fault Refusal := finish (bitReset 1 .d s)

/-- RES 1,E (R115). -/
def execRes1_E (s : State) : Host.Outcome State Fault Refusal := finish (bitReset 1 .e s)

/-- RES 1,H (R115). -/
def execRes1_H (s : State) : Host.Outcome State Fault Refusal := finish (bitReset 1 .h s)

/-- RES 1,L (R115). -/
def execRes1_L (s : State) : Host.Outcome State Fault Refusal := finish (bitReset 1 .l s)

/-- RES 1,A (R115). -/
def execRes1_A (s : State) : Host.Outcome State Fault Refusal := finish (bitReset 1 .a s)

/-- RES 2,B (R115). -/
def execRes2_B (s : State) : Host.Outcome State Fault Refusal := finish (bitReset 2 .b s)

/-- RES 2,C (R115). -/
def execRes2_C (s : State) : Host.Outcome State Fault Refusal := finish (bitReset 2 .c s)

/-- RES 2,D (R115). -/
def execRes2_D (s : State) : Host.Outcome State Fault Refusal := finish (bitReset 2 .d s)

/-- RES 2,E (R115). -/
def execRes2_E (s : State) : Host.Outcome State Fault Refusal := finish (bitReset 2 .e s)

/-- RES 2,H (R115). -/
def execRes2_H (s : State) : Host.Outcome State Fault Refusal := finish (bitReset 2 .h s)

/-- RES 2,L (R115). -/
def execRes2_L (s : State) : Host.Outcome State Fault Refusal := finish (bitReset 2 .l s)

/-- RES 2,A (R115). -/
def execRes2_A (s : State) : Host.Outcome State Fault Refusal := finish (bitReset 2 .a s)

/-- RES 3,B (R115). -/
def execRes3_B (s : State) : Host.Outcome State Fault Refusal := finish (bitReset 3 .b s)

/-- RES 3,C (R115). -/
def execRes3_C (s : State) : Host.Outcome State Fault Refusal := finish (bitReset 3 .c s)

/-- RES 3,D (R115). -/
def execRes3_D (s : State) : Host.Outcome State Fault Refusal := finish (bitReset 3 .d s)

/-- RES 3,E (R115). -/
def execRes3_E (s : State) : Host.Outcome State Fault Refusal := finish (bitReset 3 .e s)

/-- RES 3,H (R115). -/
def execRes3_H (s : State) : Host.Outcome State Fault Refusal := finish (bitReset 3 .h s)

/-- RES 3,L (R115). -/
def execRes3_L (s : State) : Host.Outcome State Fault Refusal := finish (bitReset 3 .l s)

/-- RES 3,A (R115). -/
def execRes3_A (s : State) : Host.Outcome State Fault Refusal := finish (bitReset 3 .a s)

/-- RES 4,B (R115). -/
def execRes4_B (s : State) : Host.Outcome State Fault Refusal := finish (bitReset 4 .b s)

/-- RES 4,C (R115). -/
def execRes4_C (s : State) : Host.Outcome State Fault Refusal := finish (bitReset 4 .c s)

/-- RES 4,D (R115). -/
def execRes4_D (s : State) : Host.Outcome State Fault Refusal := finish (bitReset 4 .d s)

/-- RES 4,E (R115). -/
def execRes4_E (s : State) : Host.Outcome State Fault Refusal := finish (bitReset 4 .e s)

/-- RES 4,H (R115). -/
def execRes4_H (s : State) : Host.Outcome State Fault Refusal := finish (bitReset 4 .h s)

/-- RES 4,L (R115). -/
def execRes4_L (s : State) : Host.Outcome State Fault Refusal := finish (bitReset 4 .l s)

/-- RES 4,A (R115). -/
def execRes4_A (s : State) : Host.Outcome State Fault Refusal := finish (bitReset 4 .a s)

/-- RES 5,B (R115). -/
def execRes5_B (s : State) : Host.Outcome State Fault Refusal := finish (bitReset 5 .b s)

/-- RES 5,C (R115). -/
def execRes5_C (s : State) : Host.Outcome State Fault Refusal := finish (bitReset 5 .c s)

/-- RES 5,D (R115). -/
def execRes5_D (s : State) : Host.Outcome State Fault Refusal := finish (bitReset 5 .d s)

/-- RES 5,E (R115). -/
def execRes5_E (s : State) : Host.Outcome State Fault Refusal := finish (bitReset 5 .e s)

/-- RES 5,H (R115). -/
def execRes5_H (s : State) : Host.Outcome State Fault Refusal := finish (bitReset 5 .h s)

/-- RES 5,L (R115). -/
def execRes5_L (s : State) : Host.Outcome State Fault Refusal := finish (bitReset 5 .l s)

/-- RES 5,A (R115). -/
def execRes5_A (s : State) : Host.Outcome State Fault Refusal := finish (bitReset 5 .a s)

/-- RES 6,B (R115). -/
def execRes6_B (s : State) : Host.Outcome State Fault Refusal := finish (bitReset 6 .b s)

/-- RES 6,C (R115). -/
def execRes6_C (s : State) : Host.Outcome State Fault Refusal := finish (bitReset 6 .c s)

/-- RES 6,D (R115). -/
def execRes6_D (s : State) : Host.Outcome State Fault Refusal := finish (bitReset 6 .d s)

/-- RES 6,E (R115). -/
def execRes6_E (s : State) : Host.Outcome State Fault Refusal := finish (bitReset 6 .e s)

/-- RES 6,H (R115). -/
def execRes6_H (s : State) : Host.Outcome State Fault Refusal := finish (bitReset 6 .h s)

/-- RES 6,L (R115). -/
def execRes6_L (s : State) : Host.Outcome State Fault Refusal := finish (bitReset 6 .l s)

/-- RES 6,A (R115). -/
def execRes6_A (s : State) : Host.Outcome State Fault Refusal := finish (bitReset 6 .a s)

/-- RES 7,B (R115). -/
def execRes7_B (s : State) : Host.Outcome State Fault Refusal := finish (bitReset 7 .b s)

/-- RES 7,C (R115). -/
def execRes7_C (s : State) : Host.Outcome State Fault Refusal := finish (bitReset 7 .c s)

/-- RES 7,D (R115). -/
def execRes7_D (s : State) : Host.Outcome State Fault Refusal := finish (bitReset 7 .d s)

/-- RES 7,E (R115). -/
def execRes7_E (s : State) : Host.Outcome State Fault Refusal := finish (bitReset 7 .e s)

/-- RES 7,H (R115). -/
def execRes7_H (s : State) : Host.Outcome State Fault Refusal := finish (bitReset 7 .h s)

/-- RES 7,L (R115). -/
def execRes7_L (s : State) : Host.Outcome State Fault Refusal := finish (bitReset 7 .l s)

/-- RES 7,A (R115). -/
def execRes7_A (s : State) : Host.Outcome State Fault Refusal := finish (bitReset 7 .a s)

/-- RES 0,(HL) (R116). -/
def execRes0_atHL (s : State) : Host.Outcome State Fault Refusal := finish (bitReset 0 .atHL s)

/-- RES 1,(HL) (R116). -/
def execRes1_atHL (s : State) : Host.Outcome State Fault Refusal := finish (bitReset 1 .atHL s)

/-- RES 2,(HL) (R116). -/
def execRes2_atHL (s : State) : Host.Outcome State Fault Refusal := finish (bitReset 2 .atHL s)

/-- RES 3,(HL) (R116). -/
def execRes3_atHL (s : State) : Host.Outcome State Fault Refusal := finish (bitReset 3 .atHL s)

/-- RES 4,(HL) (R116). -/
def execRes4_atHL (s : State) : Host.Outcome State Fault Refusal := finish (bitReset 4 .atHL s)

/-- RES 5,(HL) (R116). -/
def execRes5_atHL (s : State) : Host.Outcome State Fault Refusal := finish (bitReset 5 .atHL s)

/-- RES 6,(HL) (R116). -/
def execRes6_atHL (s : State) : Host.Outcome State Fault Refusal := finish (bitReset 6 .atHL s)

/-- RES 7,(HL) (R116). -/
def execRes7_atHL (s : State) : Host.Outcome State Fault Refusal := finish (bitReset 7 .atHL s)

/-- SET 0,B (R117). -/
def execSet0_B (s : State) : Host.Outcome State Fault Refusal := finish (bitSet 0 .b s)

/-- SET 0,C (R117). -/
def execSet0_C (s : State) : Host.Outcome State Fault Refusal := finish (bitSet 0 .c s)

/-- SET 0,D (R117). -/
def execSet0_D (s : State) : Host.Outcome State Fault Refusal := finish (bitSet 0 .d s)

/-- SET 0,E (R117). -/
def execSet0_E (s : State) : Host.Outcome State Fault Refusal := finish (bitSet 0 .e s)

/-- SET 0,H (R117). -/
def execSet0_H (s : State) : Host.Outcome State Fault Refusal := finish (bitSet 0 .h s)

/-- SET 0,L (R117). -/
def execSet0_L (s : State) : Host.Outcome State Fault Refusal := finish (bitSet 0 .l s)

/-- SET 0,A (R117). -/
def execSet0_A (s : State) : Host.Outcome State Fault Refusal := finish (bitSet 0 .a s)

/-- SET 1,B (R117). -/
def execSet1_B (s : State) : Host.Outcome State Fault Refusal := finish (bitSet 1 .b s)

/-- SET 1,C (R117). -/
def execSet1_C (s : State) : Host.Outcome State Fault Refusal := finish (bitSet 1 .c s)

/-- SET 1,D (R117). -/
def execSet1_D (s : State) : Host.Outcome State Fault Refusal := finish (bitSet 1 .d s)

/-- SET 1,E (R117). -/
def execSet1_E (s : State) : Host.Outcome State Fault Refusal := finish (bitSet 1 .e s)

/-- SET 1,H (R117). -/
def execSet1_H (s : State) : Host.Outcome State Fault Refusal := finish (bitSet 1 .h s)

/-- SET 1,L (R117). -/
def execSet1_L (s : State) : Host.Outcome State Fault Refusal := finish (bitSet 1 .l s)

/-- SET 1,A (R117). -/
def execSet1_A (s : State) : Host.Outcome State Fault Refusal := finish (bitSet 1 .a s)

/-- SET 2,B (R117). -/
def execSet2_B (s : State) : Host.Outcome State Fault Refusal := finish (bitSet 2 .b s)

/-- SET 2,C (R117). -/
def execSet2_C (s : State) : Host.Outcome State Fault Refusal := finish (bitSet 2 .c s)

/-- SET 2,D (R117). -/
def execSet2_D (s : State) : Host.Outcome State Fault Refusal := finish (bitSet 2 .d s)

/-- SET 2,E (R117). -/
def execSet2_E (s : State) : Host.Outcome State Fault Refusal := finish (bitSet 2 .e s)

/-- SET 2,H (R117). -/
def execSet2_H (s : State) : Host.Outcome State Fault Refusal := finish (bitSet 2 .h s)

/-- SET 2,L (R117). -/
def execSet2_L (s : State) : Host.Outcome State Fault Refusal := finish (bitSet 2 .l s)

/-- SET 2,A (R117). -/
def execSet2_A (s : State) : Host.Outcome State Fault Refusal := finish (bitSet 2 .a s)

/-- SET 3,B (R117). -/
def execSet3_B (s : State) : Host.Outcome State Fault Refusal := finish (bitSet 3 .b s)

/-- SET 3,C (R117). -/
def execSet3_C (s : State) : Host.Outcome State Fault Refusal := finish (bitSet 3 .c s)

/-- SET 3,D (R117). -/
def execSet3_D (s : State) : Host.Outcome State Fault Refusal := finish (bitSet 3 .d s)

/-- SET 3,E (R117). -/
def execSet3_E (s : State) : Host.Outcome State Fault Refusal := finish (bitSet 3 .e s)

/-- SET 3,H (R117). -/
def execSet3_H (s : State) : Host.Outcome State Fault Refusal := finish (bitSet 3 .h s)

/-- SET 3,L (R117). -/
def execSet3_L (s : State) : Host.Outcome State Fault Refusal := finish (bitSet 3 .l s)

/-- SET 3,A (R117). -/
def execSet3_A (s : State) : Host.Outcome State Fault Refusal := finish (bitSet 3 .a s)

/-- SET 4,B (R117). -/
def execSet4_B (s : State) : Host.Outcome State Fault Refusal := finish (bitSet 4 .b s)

/-- SET 4,C (R117). -/
def execSet4_C (s : State) : Host.Outcome State Fault Refusal := finish (bitSet 4 .c s)

/-- SET 4,D (R117). -/
def execSet4_D (s : State) : Host.Outcome State Fault Refusal := finish (bitSet 4 .d s)

/-- SET 4,E (R117). -/
def execSet4_E (s : State) : Host.Outcome State Fault Refusal := finish (bitSet 4 .e s)

/-- SET 4,H (R117). -/
def execSet4_H (s : State) : Host.Outcome State Fault Refusal := finish (bitSet 4 .h s)

/-- SET 4,L (R117). -/
def execSet4_L (s : State) : Host.Outcome State Fault Refusal := finish (bitSet 4 .l s)

/-- SET 4,A (R117). -/
def execSet4_A (s : State) : Host.Outcome State Fault Refusal := finish (bitSet 4 .a s)

/-- SET 5,B (R117). -/
def execSet5_B (s : State) : Host.Outcome State Fault Refusal := finish (bitSet 5 .b s)

/-- SET 5,C (R117). -/
def execSet5_C (s : State) : Host.Outcome State Fault Refusal := finish (bitSet 5 .c s)

/-- SET 5,D (R117). -/
def execSet5_D (s : State) : Host.Outcome State Fault Refusal := finish (bitSet 5 .d s)

/-- SET 5,E (R117). -/
def execSet5_E (s : State) : Host.Outcome State Fault Refusal := finish (bitSet 5 .e s)

/-- SET 5,H (R117). -/
def execSet5_H (s : State) : Host.Outcome State Fault Refusal := finish (bitSet 5 .h s)

/-- SET 5,L (R117). -/
def execSet5_L (s : State) : Host.Outcome State Fault Refusal := finish (bitSet 5 .l s)

/-- SET 5,A (R117). -/
def execSet5_A (s : State) : Host.Outcome State Fault Refusal := finish (bitSet 5 .a s)

/-- SET 6,B (R117). -/
def execSet6_B (s : State) : Host.Outcome State Fault Refusal := finish (bitSet 6 .b s)

/-- SET 6,C (R117). -/
def execSet6_C (s : State) : Host.Outcome State Fault Refusal := finish (bitSet 6 .c s)

/-- SET 6,D (R117). -/
def execSet6_D (s : State) : Host.Outcome State Fault Refusal := finish (bitSet 6 .d s)

/-- SET 6,E (R117). -/
def execSet6_E (s : State) : Host.Outcome State Fault Refusal := finish (bitSet 6 .e s)

/-- SET 6,H (R117). -/
def execSet6_H (s : State) : Host.Outcome State Fault Refusal := finish (bitSet 6 .h s)

/-- SET 6,L (R117). -/
def execSet6_L (s : State) : Host.Outcome State Fault Refusal := finish (bitSet 6 .l s)

/-- SET 6,A (R117). -/
def execSet6_A (s : State) : Host.Outcome State Fault Refusal := finish (bitSet 6 .a s)

/-- SET 7,B (R117). -/
def execSet7_B (s : State) : Host.Outcome State Fault Refusal := finish (bitSet 7 .b s)

/-- SET 7,C (R117). -/
def execSet7_C (s : State) : Host.Outcome State Fault Refusal := finish (bitSet 7 .c s)

/-- SET 7,D (R117). -/
def execSet7_D (s : State) : Host.Outcome State Fault Refusal := finish (bitSet 7 .d s)

/-- SET 7,E (R117). -/
def execSet7_E (s : State) : Host.Outcome State Fault Refusal := finish (bitSet 7 .e s)

/-- SET 7,H (R117). -/
def execSet7_H (s : State) : Host.Outcome State Fault Refusal := finish (bitSet 7 .h s)

/-- SET 7,L (R117). -/
def execSet7_L (s : State) : Host.Outcome State Fault Refusal := finish (bitSet 7 .l s)

/-- SET 7,A (R117). -/
def execSet7_A (s : State) : Host.Outcome State Fault Refusal := finish (bitSet 7 .a s)

/-- SET 0,(HL) (R118). -/
def execSet0_atHL (s : State) : Host.Outcome State Fault Refusal := finish (bitSet 0 .atHL s)

/-- SET 1,(HL) (R118). -/
def execSet1_atHL (s : State) : Host.Outcome State Fault Refusal := finish (bitSet 1 .atHL s)

/-- SET 2,(HL) (R118). -/
def execSet2_atHL (s : State) : Host.Outcome State Fault Refusal := finish (bitSet 2 .atHL s)

/-- SET 3,(HL) (R118). -/
def execSet3_atHL (s : State) : Host.Outcome State Fault Refusal := finish (bitSet 3 .atHL s)

/-- SET 4,(HL) (R118). -/
def execSet4_atHL (s : State) : Host.Outcome State Fault Refusal := finish (bitSet 4 .atHL s)

/-- SET 5,(HL) (R118). -/
def execSet5_atHL (s : State) : Host.Outcome State Fault Refusal := finish (bitSet 5 .atHL s)

/-- SET 6,(HL) (R118). -/
def execSet6_atHL (s : State) : Host.Outcome State Fault Refusal := finish (bitSet 6 .atHL s)

/-- SET 7,(HL) (R118). -/
def execSet7_atHL (s : State) : Host.Outcome State Fault Refusal := finish (bitSet 7 .atHL s)

end Sys2Proof.Machine
end

