-- ==== Sys2Proof/Machine/Control.lean ====
section
/-! DEFINITION. Control transfer (spec/45_control.md): the shared operations, then one meaning per row. -/

namespace Sys2Proof.Machine

/-! When a handler runs, PC holds PC_next (R67), so `s.pc` below is the address of the next instruction. -/

/-- `PC <- target` (R146, R148). -/
def jump (target : Word) (s : State) : Except Fault State := .ok (s.setPC target)

/-- `PC <- trunc16(PC_next + rel8)` (R149). -/
def jumpRel (e : Byte) (s : State) : Except Fault State := .ok (s.setPC (s.pc + sext16 e))

/-- `Push16(PC_next); PC <- target` (R151, R157). -/
def call (target : Word) (s : State) : Except Fault State := do
  let t ← push16 s s.pc
  .ok (t.setPC target)

/-- `PC <- Pop16()` (R153). -/
def ret (s : State) : Except Fault State := do
  let (v, s) ← pop16 s
  .ok (s.setPC v)

/-- RETI (R156): a return that also writes 1 to IME. -/
def retInterrupt (s : State) : Except Fault State := do
  let s ← ret s
  .ok { s with ime := true }

/-- A conditional handler: nothing happens when the condition is false (R144). -/
def whenCond (k : Cond) (handler : State → Except Fault State) (s : State) : Except Fault State :=
  if condHolds s k then handler s else .ok s

/-- RST t (R157): the vector is t * 8. -/
def rstVector (t : Fin 8) : Word := BitVec.ofNat 16 (t.val * 8)

/-! ## One meaning per row -/

/-- JP a16 (R146). -/
def execJp_a16 (a : Word) (s : State) : Host.Outcome State Fault Refusal := finish (jump a s)

/-- JP NZ,a16 (R147). -/
def execJpNZ_a16 (a : Word) (s : State) : Host.Outcome State Fault Refusal := finish (whenCond .nz (jump a) s)

/-- JP Z,a16 (R147). -/
def execJpZ_a16 (a : Word) (s : State) : Host.Outcome State Fault Refusal := finish (whenCond .z (jump a) s)

/-- JP NC,a16 (R147). -/
def execJpNC_a16 (a : Word) (s : State) : Host.Outcome State Fault Refusal := finish (whenCond .nc (jump a) s)

/-- JP C,a16 (R147). -/
def execJpC_a16 (a : Word) (s : State) : Host.Outcome State Fault Refusal := finish (whenCond .c (jump a) s)

/-- JP HL (R148). -/
def execJpHL (s : State) : Host.Outcome State Fault Refusal := finish (jump s.hl s)

/-- JR e8 (R149). -/
def execJr_e8 (e : Byte) (s : State) : Host.Outcome State Fault Refusal := finish (jumpRel e s)

/-- JR NZ,e8 (R150). -/
def execJrNZ_e8 (e : Byte) (s : State) : Host.Outcome State Fault Refusal := finish (whenCond .nz (jumpRel e) s)

/-- JR Z,e8 (R150). -/
def execJrZ_e8 (e : Byte) (s : State) : Host.Outcome State Fault Refusal := finish (whenCond .z (jumpRel e) s)

/-- JR NC,e8 (R150). -/
def execJrNC_e8 (e : Byte) (s : State) : Host.Outcome State Fault Refusal := finish (whenCond .nc (jumpRel e) s)

/-- JR C,e8 (R150). -/
def execJrC_e8 (e : Byte) (s : State) : Host.Outcome State Fault Refusal := finish (whenCond .c (jumpRel e) s)

/-- CALL a16 (R151). -/
def execCall_a16 (a : Word) (s : State) : Host.Outcome State Fault Refusal := finish (call a s)

/-- CALL NZ,a16 (R152). -/
def execCallNZ_a16 (a : Word) (s : State) : Host.Outcome State Fault Refusal := finish (whenCond .nz (call a) s)

/-- CALL Z,a16 (R152). -/
def execCallZ_a16 (a : Word) (s : State) : Host.Outcome State Fault Refusal := finish (whenCond .z (call a) s)

/-- CALL NC,a16 (R152). -/
def execCallNC_a16 (a : Word) (s : State) : Host.Outcome State Fault Refusal := finish (whenCond .nc (call a) s)

/-- CALL C,a16 (R152). -/
def execCallC_a16 (a : Word) (s : State) : Host.Outcome State Fault Refusal := finish (whenCond .c (call a) s)

/-- RET (R153). -/
def execRet (s : State) : Host.Outcome State Fault Refusal := finish (ret s)

/-- RET NZ (R155). -/
def execRetNZ (s : State) : Host.Outcome State Fault Refusal := finish (whenCond .nz ret s)

/-- RET Z (R155). -/
def execRetZ (s : State) : Host.Outcome State Fault Refusal := finish (whenCond .z ret s)

/-- RET NC (R155). -/
def execRetNC (s : State) : Host.Outcome State Fault Refusal := finish (whenCond .nc ret s)

/-- RET C (R155). -/
def execRetC (s : State) : Host.Outcome State Fault Refusal := finish (whenCond .c ret s)

/-- RETI (R156). -/
def execReti (s : State) : Host.Outcome State Fault Refusal := finish (retInterrupt s)

/-- RST 00H (R157). -/
def execRst00H (s : State) : Host.Outcome State Fault Refusal := finish (call (rstVector 0) s)

/-- RST 08H (R157). -/
def execRst08H (s : State) : Host.Outcome State Fault Refusal := finish (call (rstVector 1) s)

/-- RST 10H (R157). -/
def execRst10H (s : State) : Host.Outcome State Fault Refusal := finish (call (rstVector 2) s)

/-- RST 18H (R157). -/
def execRst18H (s : State) : Host.Outcome State Fault Refusal := finish (call (rstVector 3) s)

/-- RST 20H (R157). -/
def execRst20H (s : State) : Host.Outcome State Fault Refusal := finish (call (rstVector 4) s)

/-- RST 28H (R157). -/
def execRst28H (s : State) : Host.Outcome State Fault Refusal := finish (call (rstVector 5) s)

/-- RST 30H (R157). -/
def execRst30H (s : State) : Host.Outcome State Fault Refusal := finish (call (rstVector 6) s)

/-- RST 38H (R157). -/
def execRst38H (s : State) : Host.Outcome State Fault Refusal := finish (call (rstVector 7) s)

end Sys2Proof.Machine
end

