-- ==== Sys2Proof/Machine/IncDec.lean ====
section
/-! DEFINITION. Increment and decrement (spec/41_inc_dec.md): the shared operations, then one meaning per row. -/

namespace Sys2Proof.Machine

/-- INC r and INC (HL) (R69, R70): Z, N = 0 and H written, C kept. -/
def incR8 (r : R8) (s : State) : Except Fault State := do
  let v ← readR8 s r
  let res := v + 1
  let s ← writeR8 s r res
  .ok (s.writeFlags [(.z, res == 0), (.n, false), (.h, halfCarryAdd v 1)])

/-- DEC r and DEC (HL) (R71, R72): Z, N = 1 and H written, C kept. -/
def decR8 (r : R8) (s : State) : Except Fault State := do
  let v ← readR8 s r
  let res := v - 1
  let s ← writeR8 s r res
  .ok (s.writeFlags [(.z, res == 0), (.n, true), (.h, halfCarrySub v 1)])

/-- INC rr (R74): no flag. -/
def incRR (p : RR) (s : State) : Except Fault State := .ok (writeRR s p (readRR s p + 1))

/-- DEC rr (R75): no flag. -/
def decRR (p : RR) (s : State) : Except Fault State := .ok (writeRR s p (readRR s p - 1))

/-! ## One meaning per row -/

/-- INC B (R69). -/
def execIncB (s : State) : Host.Outcome State Fault Refusal := finish (incR8 .b s)

/-- INC C (R69). -/
def execIncC (s : State) : Host.Outcome State Fault Refusal := finish (incR8 .c s)

/-- INC D (R69). -/
def execIncD (s : State) : Host.Outcome State Fault Refusal := finish (incR8 .d s)

/-- INC E (R69). -/
def execIncE (s : State) : Host.Outcome State Fault Refusal := finish (incR8 .e s)

/-- INC H (R69). -/
def execIncH (s : State) : Host.Outcome State Fault Refusal := finish (incR8 .h s)

/-- INC L (R69). -/
def execIncL (s : State) : Host.Outcome State Fault Refusal := finish (incR8 .l s)

/-- INC A (R69). -/
def execIncA (s : State) : Host.Outcome State Fault Refusal := finish (incR8 .a s)

/-- INC (HL) (R70). -/
def execIncAtHL (s : State) : Host.Outcome State Fault Refusal := finish (incR8 .atHL s)

/-- DEC B (R71). -/
def execDecB (s : State) : Host.Outcome State Fault Refusal := finish (decR8 .b s)

/-- DEC C (R71). -/
def execDecC (s : State) : Host.Outcome State Fault Refusal := finish (decR8 .c s)

/-- DEC D (R71). -/
def execDecD (s : State) : Host.Outcome State Fault Refusal := finish (decR8 .d s)

/-- DEC E (R71). -/
def execDecE (s : State) : Host.Outcome State Fault Refusal := finish (decR8 .e s)

/-- DEC H (R71). -/
def execDecH (s : State) : Host.Outcome State Fault Refusal := finish (decR8 .h s)

/-- DEC L (R71). -/
def execDecL (s : State) : Host.Outcome State Fault Refusal := finish (decR8 .l s)

/-- DEC A (R71). -/
def execDecA (s : State) : Host.Outcome State Fault Refusal := finish (decR8 .a s)

/-- DEC (HL) (R72). -/
def execDecAtHL (s : State) : Host.Outcome State Fault Refusal := finish (decR8 .atHL s)

/-- INC BC (R74). -/
def execIncBC (s : State) : Host.Outcome State Fault Refusal := finish (incRR .bc s)

/-- INC DE (R74). -/
def execIncDE (s : State) : Host.Outcome State Fault Refusal := finish (incRR .de s)

/-- INC HL (R74). -/
def execIncHL (s : State) : Host.Outcome State Fault Refusal := finish (incRR .hl s)

/-- INC SP (R74). -/
def execIncSP (s : State) : Host.Outcome State Fault Refusal := finish (incRR .sp s)

/-- DEC BC (R75). -/
def execDecBC (s : State) : Host.Outcome State Fault Refusal := finish (decRR .bc s)

/-- DEC DE (R75). -/
def execDecDE (s : State) : Host.Outcome State Fault Refusal := finish (decRR .de s)

/-- DEC HL (R75). -/
def execDecHL (s : State) : Host.Outcome State Fault Refusal := finish (decRR .hl s)

/-- DEC SP (R75). -/
def execDecSP (s : State) : Host.Outcome State Fault Refusal := finish (decRR .sp s)

end Sys2Proof.Machine
end

