-- ==== Sys2Proof/Machine/Loads.lean ====
section
/-! DEFINITION. Loads, stores and stack transfers (spec/44_loads.md): the shared operations, then one meaning per row. -/

namespace Sys2Proof.Machine

/-- LD r,r', LD r,(HL) and LD (HL),r (R120, R122, R123). -/
def load (dst src : R8) (s : State) : Except Fault State := do
  let v ← readR8 s src
  writeR8 s dst v

/-- LD r,d8 and LD (HL),d8 (R121, R124). -/
def loadImm (r : R8) (n : Byte) (s : State) : Except Fault State := writeR8 s r n

/-- LD (BC),A, LD (DE),A, LD (HL+),A and LD (HL-),A (R125, R127, R129): the access at the old address, then the base
update. -/
def storeInd (p : Ind) (s : State) : Except Fault State := do
  let s ← writeByte s (indAddr s p) s.a
  .ok (indUpdate s p)

/-- LD A,(BC), LD A,(DE), LD A,(HL+) and LD A,(HL-) (R126, R128, R130). -/
def loadInd (p : Ind) (s : State) : Except Fault State := do
  let v ← readByte s (indAddr s p)
  .ok (indUpdate (s.setA v) p)

/-- A stored at an address: LDH (a8),A, LD (C),A and LD (a16),A (R131, R133, R135). -/
def storeA (addr : Word) (s : State) : Except Fault State := writeByte s addr s.a

/-- A loaded from an address: LDH A,(a8), LD A,(C) and LD A,(a16) (R132, R134, R136). -/
def loadA (addr : Word) (s : State) : Except Fault State := do
  let v ← readByte s addr
  .ok (s.setA v)

/-- LD rr,d16 (R137). -/
def loadRR (p : RR) (n : Word) (s : State) : Except Fault State := .ok (writeRR s p n)

/-- LD (a16),SP (R138). -/
def storeSP (addr : Word) (s : State) : Except Fault State := writeWord s addr s.sp

/-- LD SP,HL (R139). -/
def loadSPHL (s : State) : Except Fault State := .ok (s.setSP s.hl)

/-- LD HL,SP+e8 (R140). -/
def loadHLSP (e : Byte) (s : State) : Except Fault State :=
  .ok ((s.setHL (s.sp + sext16 e)).writeFlags (spOffsetFlags s.sp e))

/-- PUSH qq (R141). -/
def pushQQ (q : QQ) (s : State) : Except Fault State := push16 s (readQQ s q)

/-- POP qq (R142). -/
def popQQ (q : QQ) (s : State) : Except Fault State := do
  let (v, s) ← pop16 s
  .ok (writeQQ s q v)

/-! ## One meaning per row -/

/-- LD B,B (R120). -/
def execLdB_B (s : State) : Host.Outcome State Fault Refusal := finish (load .b .b s)

/-- LD B,C (R120). -/
def execLdB_C (s : State) : Host.Outcome State Fault Refusal := finish (load .b .c s)

/-- LD B,D (R120). -/
def execLdB_D (s : State) : Host.Outcome State Fault Refusal := finish (load .b .d s)

/-- LD B,E (R120). -/
def execLdB_E (s : State) : Host.Outcome State Fault Refusal := finish (load .b .e s)

/-- LD B,H (R120). -/
def execLdB_H (s : State) : Host.Outcome State Fault Refusal := finish (load .b .h s)

/-- LD B,L (R120). -/
def execLdB_L (s : State) : Host.Outcome State Fault Refusal := finish (load .b .l s)

/-- LD B,A (R120). -/
def execLdB_A (s : State) : Host.Outcome State Fault Refusal := finish (load .b .a s)

/-- LD C,B (R120). -/
def execLdC_B (s : State) : Host.Outcome State Fault Refusal := finish (load .c .b s)

/-- LD C,C (R120). -/
def execLdC_C (s : State) : Host.Outcome State Fault Refusal := finish (load .c .c s)

/-- LD C,D (R120). -/
def execLdC_D (s : State) : Host.Outcome State Fault Refusal := finish (load .c .d s)

/-- LD C,E (R120). -/
def execLdC_E (s : State) : Host.Outcome State Fault Refusal := finish (load .c .e s)

/-- LD C,H (R120). -/
def execLdC_H (s : State) : Host.Outcome State Fault Refusal := finish (load .c .h s)

/-- LD C,L (R120). -/
def execLdC_L (s : State) : Host.Outcome State Fault Refusal := finish (load .c .l s)

/-- LD C,A (R120). -/
def execLdC_A (s : State) : Host.Outcome State Fault Refusal := finish (load .c .a s)

/-- LD D,B (R120). -/
def execLdD_B (s : State) : Host.Outcome State Fault Refusal := finish (load .d .b s)

/-- LD D,C (R120). -/
def execLdD_C (s : State) : Host.Outcome State Fault Refusal := finish (load .d .c s)

/-- LD D,D (R120). -/
def execLdD_D (s : State) : Host.Outcome State Fault Refusal := finish (load .d .d s)

/-- LD D,E (R120). -/
def execLdD_E (s : State) : Host.Outcome State Fault Refusal := finish (load .d .e s)

/-- LD D,H (R120). -/
def execLdD_H (s : State) : Host.Outcome State Fault Refusal := finish (load .d .h s)

/-- LD D,L (R120). -/
def execLdD_L (s : State) : Host.Outcome State Fault Refusal := finish (load .d .l s)

/-- LD D,A (R120). -/
def execLdD_A (s : State) : Host.Outcome State Fault Refusal := finish (load .d .a s)

/-- LD E,B (R120). -/
def execLdE_B (s : State) : Host.Outcome State Fault Refusal := finish (load .e .b s)

/-- LD E,C (R120). -/
def execLdE_C (s : State) : Host.Outcome State Fault Refusal := finish (load .e .c s)

/-- LD E,D (R120). -/
def execLdE_D (s : State) : Host.Outcome State Fault Refusal := finish (load .e .d s)

/-- LD E,E (R120). -/
def execLdE_E (s : State) : Host.Outcome State Fault Refusal := finish (load .e .e s)

/-- LD E,H (R120). -/
def execLdE_H (s : State) : Host.Outcome State Fault Refusal := finish (load .e .h s)

/-- LD E,L (R120). -/
def execLdE_L (s : State) : Host.Outcome State Fault Refusal := finish (load .e .l s)

/-- LD E,A (R120). -/
def execLdE_A (s : State) : Host.Outcome State Fault Refusal := finish (load .e .a s)

/-- LD H,B (R120). -/
def execLdH_B (s : State) : Host.Outcome State Fault Refusal := finish (load .h .b s)

/-- LD H,C (R120). -/
def execLdH_C (s : State) : Host.Outcome State Fault Refusal := finish (load .h .c s)

/-- LD H,D (R120). -/
def execLdH_D (s : State) : Host.Outcome State Fault Refusal := finish (load .h .d s)

/-- LD H,E (R120). -/
def execLdH_E (s : State) : Host.Outcome State Fault Refusal := finish (load .h .e s)

/-- LD H,H (R120). -/
def execLdH_H (s : State) : Host.Outcome State Fault Refusal := finish (load .h .h s)

/-- LD H,L (R120). -/
def execLdH_L (s : State) : Host.Outcome State Fault Refusal := finish (load .h .l s)

/-- LD H,A (R120). -/
def execLdH_A (s : State) : Host.Outcome State Fault Refusal := finish (load .h .a s)

/-- LD L,B (R120). -/
def execLdL_B (s : State) : Host.Outcome State Fault Refusal := finish (load .l .b s)

/-- LD L,C (R120). -/
def execLdL_C (s : State) : Host.Outcome State Fault Refusal := finish (load .l .c s)

/-- LD L,D (R120). -/
def execLdL_D (s : State) : Host.Outcome State Fault Refusal := finish (load .l .d s)

/-- LD L,E (R120). -/
def execLdL_E (s : State) : Host.Outcome State Fault Refusal := finish (load .l .e s)

/-- LD L,H (R120). -/
def execLdL_H (s : State) : Host.Outcome State Fault Refusal := finish (load .l .h s)

/-- LD L,L (R120). -/
def execLdL_L (s : State) : Host.Outcome State Fault Refusal := finish (load .l .l s)

/-- LD L,A (R120). -/
def execLdL_A (s : State) : Host.Outcome State Fault Refusal := finish (load .l .a s)

/-- LD A,B (R120). -/
def execLdA_B (s : State) : Host.Outcome State Fault Refusal := finish (load .a .b s)

/-- LD A,C (R120). -/
def execLdA_C (s : State) : Host.Outcome State Fault Refusal := finish (load .a .c s)

/-- LD A,D (R120). -/
def execLdA_D (s : State) : Host.Outcome State Fault Refusal := finish (load .a .d s)

/-- LD A,E (R120). -/
def execLdA_E (s : State) : Host.Outcome State Fault Refusal := finish (load .a .e s)

/-- LD A,H (R120). -/
def execLdA_H (s : State) : Host.Outcome State Fault Refusal := finish (load .a .h s)

/-- LD A,L (R120). -/
def execLdA_L (s : State) : Host.Outcome State Fault Refusal := finish (load .a .l s)

/-- LD A,A (R120). -/
def execLdA_A (s : State) : Host.Outcome State Fault Refusal := finish (load .a .a s)

/-- LD B,d8 (R121). -/
def execLdB_d8 (n : Byte) (s : State) : Host.Outcome State Fault Refusal := finish (loadImm .b n s)

/-- LD C,d8 (R121). -/
def execLdC_d8 (n : Byte) (s : State) : Host.Outcome State Fault Refusal := finish (loadImm .c n s)

/-- LD D,d8 (R121). -/
def execLdD_d8 (n : Byte) (s : State) : Host.Outcome State Fault Refusal := finish (loadImm .d n s)

/-- LD E,d8 (R121). -/
def execLdE_d8 (n : Byte) (s : State) : Host.Outcome State Fault Refusal := finish (loadImm .e n s)

/-- LD H,d8 (R121). -/
def execLdH_d8 (n : Byte) (s : State) : Host.Outcome State Fault Refusal := finish (loadImm .h n s)

/-- LD L,d8 (R121). -/
def execLdL_d8 (n : Byte) (s : State) : Host.Outcome State Fault Refusal := finish (loadImm .l n s)

/-- LD A,d8 (R121). -/
def execLdA_d8 (n : Byte) (s : State) : Host.Outcome State Fault Refusal := finish (loadImm .a n s)

/-- LD B,(HL) (R122). -/
def execLdB_atHL (s : State) : Host.Outcome State Fault Refusal := finish (load .b .atHL s)

/-- LD C,(HL) (R122). -/
def execLdC_atHL (s : State) : Host.Outcome State Fault Refusal := finish (load .c .atHL s)

/-- LD D,(HL) (R122). -/
def execLdD_atHL (s : State) : Host.Outcome State Fault Refusal := finish (load .d .atHL s)

/-- LD E,(HL) (R122). -/
def execLdE_atHL (s : State) : Host.Outcome State Fault Refusal := finish (load .e .atHL s)

/-- LD H,(HL) (R122). -/
def execLdH_atHL (s : State) : Host.Outcome State Fault Refusal := finish (load .h .atHL s)

/-- LD L,(HL) (R122). -/
def execLdL_atHL (s : State) : Host.Outcome State Fault Refusal := finish (load .l .atHL s)

/-- LD A,(HL) (R122). -/
def execLdA_atHL (s : State) : Host.Outcome State Fault Refusal := finish (load .a .atHL s)

/-- LD (HL),B (R123). -/
def execLdAtHL_B (s : State) : Host.Outcome State Fault Refusal := finish (load .atHL .b s)

/-- LD (HL),C (R123). -/
def execLdAtHL_C (s : State) : Host.Outcome State Fault Refusal := finish (load .atHL .c s)

/-- LD (HL),D (R123). -/
def execLdAtHL_D (s : State) : Host.Outcome State Fault Refusal := finish (load .atHL .d s)

/-- LD (HL),E (R123). -/
def execLdAtHL_E (s : State) : Host.Outcome State Fault Refusal := finish (load .atHL .e s)

/-- LD (HL),H (R123). -/
def execLdAtHL_H (s : State) : Host.Outcome State Fault Refusal := finish (load .atHL .h s)

/-- LD (HL),L (R123). -/
def execLdAtHL_L (s : State) : Host.Outcome State Fault Refusal := finish (load .atHL .l s)

/-- LD (HL),A (R123). -/
def execLdAtHL_A (s : State) : Host.Outcome State Fault Refusal := finish (load .atHL .a s)

/-- LD (HL),d8 (R124). -/
def execLdAtHL_d8 (n : Byte) (s : State) : Host.Outcome State Fault Refusal := finish (loadImm .atHL n s)

/-- LD (BC),A (R125). -/
def execLdAtBC_A (s : State) : Host.Outcome State Fault Refusal := finish (storeInd .bc s)

/-- LD (DE),A (R125). -/
def execLdAtDE_A (s : State) : Host.Outcome State Fault Refusal := finish (storeInd .de s)

/-- LD A,(BC) (R126). -/
def execLdA_atBC (s : State) : Host.Outcome State Fault Refusal := finish (loadInd .bc s)

/-- LD A,(DE) (R126). -/
def execLdA_atDE (s : State) : Host.Outcome State Fault Refusal := finish (loadInd .de s)

/-- LD (HL+),A (R127). -/
def execLdAtHLinc_A (s : State) : Host.Outcome State Fault Refusal := finish (storeInd .hlInc s)

/-- LD A,(HL+) (R128). -/
def execLdA_atHLinc (s : State) : Host.Outcome State Fault Refusal := finish (loadInd .hlInc s)

/-- LD (HL-),A (R129). -/
def execLdAtHLdec_A (s : State) : Host.Outcome State Fault Refusal := finish (storeInd .hlDec s)

/-- LD A,(HL-) (R130). -/
def execLdA_atHLdec (s : State) : Host.Outcome State Fault Refusal := finish (loadInd .hlDec s)

/-- LDH (a8),A (R131). -/
def execLdhAtA8_A (n : Byte) (s : State) : Host.Outcome State Fault Refusal := finish (storeA (near n) s)

/-- LDH A,(a8) (R132). -/
def execLdhA_atA8 (n : Byte) (s : State) : Host.Outcome State Fault Refusal := finish (loadA (near n) s)

/-- LD (C),A (R133). -/
def execLdAtC_A (s : State) : Host.Outcome State Fault Refusal := finish (storeA (near s.c) s)

/-- LD A,(C) (R134). -/
def execLdA_atC (s : State) : Host.Outcome State Fault Refusal := finish (loadA (near s.c) s)

/-- LD (a16),A (R135). -/
def execLdAtA16_A (a : Word) (s : State) : Host.Outcome State Fault Refusal := finish (storeA a s)

/-- LD A,(a16) (R136). -/
def execLdA_atA16 (a : Word) (s : State) : Host.Outcome State Fault Refusal := finish (loadA a s)

/-- LD BC,d16 (R137). -/
def execLdBC_d16 (n : Word) (s : State) : Host.Outcome State Fault Refusal := finish (loadRR .bc n s)

/-- LD DE,d16 (R137). -/
def execLdDE_d16 (n : Word) (s : State) : Host.Outcome State Fault Refusal := finish (loadRR .de n s)

/-- LD HL,d16 (R137). -/
def execLdHL_d16 (n : Word) (s : State) : Host.Outcome State Fault Refusal := finish (loadRR .hl n s)

/-- LD SP,d16 (R137). -/
def execLdSP_d16 (n : Word) (s : State) : Host.Outcome State Fault Refusal := finish (loadRR .sp n s)

/-- LD (a16),SP (R138). -/
def execLdAtA16_SP (a : Word) (s : State) : Host.Outcome State Fault Refusal := finish (storeSP a s)

/-- LD SP,HL (R139). -/
def execLdSP_HL (s : State) : Host.Outcome State Fault Refusal := finish (loadSPHL s)

/-- LD HL,SP+e8 (R140). -/
def execLdHL_SPe8 (e : Byte) (s : State) : Host.Outcome State Fault Refusal := finish (loadHLSP e s)

/-- PUSH BC (R141). -/
def execPushBC (s : State) : Host.Outcome State Fault Refusal := finish (pushQQ .bc s)

/-- PUSH DE (R141). -/
def execPushDE (s : State) : Host.Outcome State Fault Refusal := finish (pushQQ .de s)

/-- PUSH HL (R141). -/
def execPushHL (s : State) : Host.Outcome State Fault Refusal := finish (pushQQ .hl s)

/-- PUSH AF (R141). -/
def execPushAF (s : State) : Host.Outcome State Fault Refusal := finish (pushQQ .af s)

/-- POP BC (R142). -/
def execPopBC (s : State) : Host.Outcome State Fault Refusal := finish (popQQ .bc s)

/-- POP DE (R142). -/
def execPopDE (s : State) : Host.Outcome State Fault Refusal := finish (popQQ .de s)

/-- POP HL (R142). -/
def execPopHL (s : State) : Host.Outcome State Fault Refusal := finish (popQQ .hl s)

/-- POP AF (R142). -/
def execPopAF (s : State) : Host.Outcome State Fault Refusal := finish (popQQ .af s)

end Sys2Proof.Machine
end

