-- ==== Sys2Proof/Machine/Rotate.lean ====
section
/-! DEFINITION. Rotates, shifts and SWAP (spec/43_rotate_shift_bit.md): the shared operations, then one meaning per row. -/

namespace Sys2Proof.Machine

/-! The bit movements of R92: the result, and the bit that becomes C. -/

/-- `rlc(v)`. -/
def rlcBits (v : Byte) : Byte × Bool := ((v <<< 1) ||| boolByte (getBit v 7), getBit v 7)

/-- `rl(v, c)`. -/
def rlBits (v : Byte) (c : Bool) : Byte × Bool := ((v <<< 1) ||| boolByte c, getBit v 7)

/-- `rrc(v)`. -/
def rrcBits (v : Byte) : Byte × Bool := ((v >>> 1) ||| (boolByte (getBit v 0) <<< 7), getBit v 0)

/-- `rr(v, c)`. -/
def rrBits (v : Byte) (c : Bool) : Byte × Bool := ((v >>> 1) ||| (boolByte c <<< 7), getBit v 0)

/-- `sla(v)`. -/
def slaBits (v : Byte) : Byte × Bool := (v <<< 1, getBit v 7)

/-- `sra(v)`. -/
def sraBits (v : Byte) : Byte × Bool := ((v >>> 1) ||| (v &&& 0x80), getBit v 0)

/-- `srl(v)`. -/
def srlBits (v : Byte) : Byte × Bool := (v >>> 1, getBit v 0)

/-- SWAP (R111): the nibbles exchanged; C is cleared. -/
def swapBits (v : Byte) : Byte × Bool := (((v &&& 0x0F) <<< 4) ||| (v >>> 4), false)

/-- The result and the new C of a CB operation code. -/
def cbBits (o : CbOp) (v : Byte) (c : Bool) : Byte × Bool :=
  match o with
  | .rlc => rlcBits v
  | .rrc => rrcBits v
  | .rl => rlBits v c
  | .rr => rrBits v c
  | .sla => slaBits v
  | .sra => sraBits v
  | .swap => swapBits v
  | .srl => srlBits v

/-- The CB rotates, shifts and SWAP on r and (HL) (R97 to R112): Z from the result, N = 0, H = 0, C. -/
def cbR8 (o : CbOp) (r : R8) (s : State) : Except Fault State := do
  let v ← readR8 s r
  let res := cbBits o v (s.flag .c)
  let s ← writeR8 s r res.1
  .ok (s.writeFlags [(.z, res.1 == 0), (.n, false), (.h, false), (.c, res.2)])

/-- The result and the new C of an accumulator rotate. -/
def accBits (o : AccRot) (v : Byte) (c : Bool) : Byte × Bool :=
  match o with
  | .rlca => rlcBits v
  | .rrca => rrcBits v
  | .rla => rlBits v c
  | .rra => rrBits v c

/-- RLCA, RLA, RRCA and RRA (R93 to R96): Z, N and H cleared, C the bit moved out. -/
def accRotate (o : AccRot) (s : State) : Except Fault State :=
  let res := accBits o s.a (s.flag .c)
  .ok ((s.setA res.1).writeFlags [(.z, false), (.n, false), (.h, false), (.c, res.2)])

/-! ## One meaning per row -/

/-- RLCA (R93). -/
def execRlca (s : State) : Host.Outcome State Fault Refusal := finish (accRotate .rlca s)

/-- RLA (R94). -/
def execRla (s : State) : Host.Outcome State Fault Refusal := finish (accRotate .rla s)

/-- RRCA (R95). -/
def execRrca (s : State) : Host.Outcome State Fault Refusal := finish (accRotate .rrca s)

/-- RRA (R96). -/
def execRra (s : State) : Host.Outcome State Fault Refusal := finish (accRotate .rra s)

/-- RLC B (R97). -/
def execRlc_B (s : State) : Host.Outcome State Fault Refusal := finish (cbR8 .rlc .b s)

/-- RLC C (R97). -/
def execRlc_C (s : State) : Host.Outcome State Fault Refusal := finish (cbR8 .rlc .c s)

/-- RLC D (R97). -/
def execRlc_D (s : State) : Host.Outcome State Fault Refusal := finish (cbR8 .rlc .d s)

/-- RLC E (R97). -/
def execRlc_E (s : State) : Host.Outcome State Fault Refusal := finish (cbR8 .rlc .e s)

/-- RLC H (R97). -/
def execRlc_H (s : State) : Host.Outcome State Fault Refusal := finish (cbR8 .rlc .h s)

/-- RLC L (R97). -/
def execRlc_L (s : State) : Host.Outcome State Fault Refusal := finish (cbR8 .rlc .l s)

/-- RLC A (R97). -/
def execRlc_A (s : State) : Host.Outcome State Fault Refusal := finish (cbR8 .rlc .a s)

/-- RLC (HL) (R98). -/
def execRlc_atHL (s : State) : Host.Outcome State Fault Refusal := finish (cbR8 .rlc .atHL s)

/-- RRC B (R99). -/
def execRrc_B (s : State) : Host.Outcome State Fault Refusal := finish (cbR8 .rrc .b s)

/-- RRC C (R99). -/
def execRrc_C (s : State) : Host.Outcome State Fault Refusal := finish (cbR8 .rrc .c s)

/-- RRC D (R99). -/
def execRrc_D (s : State) : Host.Outcome State Fault Refusal := finish (cbR8 .rrc .d s)

/-- RRC E (R99). -/
def execRrc_E (s : State) : Host.Outcome State Fault Refusal := finish (cbR8 .rrc .e s)

/-- RRC H (R99). -/
def execRrc_H (s : State) : Host.Outcome State Fault Refusal := finish (cbR8 .rrc .h s)

/-- RRC L (R99). -/
def execRrc_L (s : State) : Host.Outcome State Fault Refusal := finish (cbR8 .rrc .l s)

/-- RRC A (R99). -/
def execRrc_A (s : State) : Host.Outcome State Fault Refusal := finish (cbR8 .rrc .a s)

/-- RRC (HL) (R100). -/
def execRrc_atHL (s : State) : Host.Outcome State Fault Refusal := finish (cbR8 .rrc .atHL s)

/-- RL B (R101). -/
def execRl_B (s : State) : Host.Outcome State Fault Refusal := finish (cbR8 .rl .b s)

/-- RL C (R101). -/
def execRl_C (s : State) : Host.Outcome State Fault Refusal := finish (cbR8 .rl .c s)

/-- RL D (R101). -/
def execRl_D (s : State) : Host.Outcome State Fault Refusal := finish (cbR8 .rl .d s)

/-- RL E (R101). -/
def execRl_E (s : State) : Host.Outcome State Fault Refusal := finish (cbR8 .rl .e s)

/-- RL H (R101). -/
def execRl_H (s : State) : Host.Outcome State Fault Refusal := finish (cbR8 .rl .h s)

/-- RL L (R101). -/
def execRl_L (s : State) : Host.Outcome State Fault Refusal := finish (cbR8 .rl .l s)

/-- RL A (R101). -/
def execRl_A (s : State) : Host.Outcome State Fault Refusal := finish (cbR8 .rl .a s)

/-- RL (HL) (R102). -/
def execRl_atHL (s : State) : Host.Outcome State Fault Refusal := finish (cbR8 .rl .atHL s)

/-- RR B (R103). -/
def execRr_B (s : State) : Host.Outcome State Fault Refusal := finish (cbR8 .rr .b s)

/-- RR C (R103). -/
def execRr_C (s : State) : Host.Outcome State Fault Refusal := finish (cbR8 .rr .c s)

/-- RR D (R103). -/
def execRr_D (s : State) : Host.Outcome State Fault Refusal := finish (cbR8 .rr .d s)

/-- RR E (R103). -/
def execRr_E (s : State) : Host.Outcome State Fault Refusal := finish (cbR8 .rr .e s)

/-- RR H (R103). -/
def execRr_H (s : State) : Host.Outcome State Fault Refusal := finish (cbR8 .rr .h s)

/-- RR L (R103). -/
def execRr_L (s : State) : Host.Outcome State Fault Refusal := finish (cbR8 .rr .l s)

/-- RR A (R103). -/
def execRr_A (s : State) : Host.Outcome State Fault Refusal := finish (cbR8 .rr .a s)

/-- RR (HL) (R104). -/
def execRr_atHL (s : State) : Host.Outcome State Fault Refusal := finish (cbR8 .rr .atHL s)

/-- SLA B (R105). -/
def execSla_B (s : State) : Host.Outcome State Fault Refusal := finish (cbR8 .sla .b s)

/-- SLA C (R105). -/
def execSla_C (s : State) : Host.Outcome State Fault Refusal := finish (cbR8 .sla .c s)

/-- SLA D (R105). -/
def execSla_D (s : State) : Host.Outcome State Fault Refusal := finish (cbR8 .sla .d s)

/-- SLA E (R105). -/
def execSla_E (s : State) : Host.Outcome State Fault Refusal := finish (cbR8 .sla .e s)

/-- SLA H (R105). -/
def execSla_H (s : State) : Host.Outcome State Fault Refusal := finish (cbR8 .sla .h s)

/-- SLA L (R105). -/
def execSla_L (s : State) : Host.Outcome State Fault Refusal := finish (cbR8 .sla .l s)

/-- SLA A (R105). -/
def execSla_A (s : State) : Host.Outcome State Fault Refusal := finish (cbR8 .sla .a s)

/-- SLA (HL) (R106). -/
def execSla_atHL (s : State) : Host.Outcome State Fault Refusal := finish (cbR8 .sla .atHL s)

/-- SRA B (R107). -/
def execSra_B (s : State) : Host.Outcome State Fault Refusal := finish (cbR8 .sra .b s)

/-- SRA C (R107). -/
def execSra_C (s : State) : Host.Outcome State Fault Refusal := finish (cbR8 .sra .c s)

/-- SRA D (R107). -/
def execSra_D (s : State) : Host.Outcome State Fault Refusal := finish (cbR8 .sra .d s)

/-- SRA E (R107). -/
def execSra_E (s : State) : Host.Outcome State Fault Refusal := finish (cbR8 .sra .e s)

/-- SRA H (R107). -/
def execSra_H (s : State) : Host.Outcome State Fault Refusal := finish (cbR8 .sra .h s)

/-- SRA L (R107). -/
def execSra_L (s : State) : Host.Outcome State Fault Refusal := finish (cbR8 .sra .l s)

/-- SRA A (R107). -/
def execSra_A (s : State) : Host.Outcome State Fault Refusal := finish (cbR8 .sra .a s)

/-- SRA (HL) (R108). -/
def execSra_atHL (s : State) : Host.Outcome State Fault Refusal := finish (cbR8 .sra .atHL s)

/-- SRL B (R109). -/
def execSrl_B (s : State) : Host.Outcome State Fault Refusal := finish (cbR8 .srl .b s)

/-- SRL C (R109). -/
def execSrl_C (s : State) : Host.Outcome State Fault Refusal := finish (cbR8 .srl .c s)

/-- SRL D (R109). -/
def execSrl_D (s : State) : Host.Outcome State Fault Refusal := finish (cbR8 .srl .d s)

/-- SRL E (R109). -/
def execSrl_E (s : State) : Host.Outcome State Fault Refusal := finish (cbR8 .srl .e s)

/-- SRL H (R109). -/
def execSrl_H (s : State) : Host.Outcome State Fault Refusal := finish (cbR8 .srl .h s)

/-- SRL L (R109). -/
def execSrl_L (s : State) : Host.Outcome State Fault Refusal := finish (cbR8 .srl .l s)

/-- SRL A (R109). -/
def execSrl_A (s : State) : Host.Outcome State Fault Refusal := finish (cbR8 .srl .a s)

/-- SRL (HL) (R110). -/
def execSrl_atHL (s : State) : Host.Outcome State Fault Refusal := finish (cbR8 .srl .atHL s)

/-- SWAP B (R111). -/
def execSwap_B (s : State) : Host.Outcome State Fault Refusal := finish (cbR8 .swap .b s)

/-- SWAP C (R111). -/
def execSwap_C (s : State) : Host.Outcome State Fault Refusal := finish (cbR8 .swap .c s)

/-- SWAP D (R111). -/
def execSwap_D (s : State) : Host.Outcome State Fault Refusal := finish (cbR8 .swap .d s)

/-- SWAP E (R111). -/
def execSwap_E (s : State) : Host.Outcome State Fault Refusal := finish (cbR8 .swap .e s)

/-- SWAP H (R111). -/
def execSwap_H (s : State) : Host.Outcome State Fault Refusal := finish (cbR8 .swap .h s)

/-- SWAP L (R111). -/
def execSwap_L (s : State) : Host.Outcome State Fault Refusal := finish (cbR8 .swap .l s)

/-- SWAP A (R111). -/
def execSwap_A (s : State) : Host.Outcome State Fault Refusal := finish (cbR8 .swap .a s)

/-- SWAP (HL) (R112). -/
def execSwap_atHL (s : State) : Host.Outcome State Fault Refusal := finish (cbR8 .swap .atHL s)

end Sys2Proof.Machine
end

