-- ==== Sys2Proof/Machine/Misc.lean ====
section
/-! DEFINITION. Miscellaneous, unimplemented, reserved, prefix (spec/46_misc.md): the shared operations, then one meaning per row. -/

namespace Sys2Proof.Machine

/-- NOP (R158): the step's PC advance is its only effect. -/
def nothing (s : State) : Except Fault State := .ok s

/-- HALT, STOP, DI and EI (R159 to R162): the handler raises Unimplemented with the opcode. -/
def unimplementedOp (op : Byte) (_s : State) : Except Fault State := raise (.unimplemented op)

/-- A reserved opcode (R163): the handler raises Reserved with the opcode. -/
def reservedOp (op : Byte) (_s : State) : Except Fault State := raise (.reserved op)

/-- The CB table entry that the prefix selects, run straight from the second byte's fields (R60, R164): group [7:6],
operation or bit index [5:3], r code [2:0]. -/
def runCBEntry (op : Byte) (s : State) : Except Fault State :=
  match fieldX op with
  | 0 => cbR8 (cbOfCode (fieldY op)) (r8OfCode (fieldZ op)) s
  | 1 => bitTest (fieldY op) (r8OfCode (fieldZ op)) s
  | 2 => bitReset (fieldY op) (r8OfCode (fieldZ op)) s
  | 3 => bitSet (fieldY op) (r8OfCode (fieldZ op)) s

/-! ## One meaning per row -/

/-- NOP (R158). -/
def execNop (s : State) : Host.Outcome State Fault Refusal := finish (nothing s)

/-- HALT (R159). -/
def execHalt (s : State) : Host.Outcome State Fault Refusal := finish (unimplementedOp 0x76 s)

/-- STOP (R160). -/
def execStop (_n : Byte) (s : State) : Host.Outcome State Fault Refusal := finish (unimplementedOp 0x10 s)

/-- DI (R161). -/
def execDi (s : State) : Host.Outcome State Fault Refusal := finish (unimplementedOp 0xF3 s)

/-- EI (R162). -/
def execEi (s : State) : Host.Outcome State Fault Refusal := finish (unimplementedOp 0xFB s)

/-- RESERVED D3H (R163). -/
def execReservedD3H (s : State) : Host.Outcome State Fault Refusal := finish (reservedOp 0xD3 s)

/-- RESERVED DBH (R163). -/
def execReservedDBH (s : State) : Host.Outcome State Fault Refusal := finish (reservedOp 0xDB s)

/-- RESERVED DDH (R163). -/
def execReservedDDH (s : State) : Host.Outcome State Fault Refusal := finish (reservedOp 0xDD s)

/-- RESERVED E3H (R163). -/
def execReservedE3H (s : State) : Host.Outcome State Fault Refusal := finish (reservedOp 0xE3 s)

/-- RESERVED E4H (R163). -/
def execReservedE4H (s : State) : Host.Outcome State Fault Refusal := finish (reservedOp 0xE4 s)

/-- RESERVED EBH (R163). -/
def execReservedEBH (s : State) : Host.Outcome State Fault Refusal := finish (reservedOp 0xEB s)

/-- RESERVED ECH (R163). -/
def execReservedECH (s : State) : Host.Outcome State Fault Refusal := finish (reservedOp 0xEC s)

/-- RESERVED EDH (R163). -/
def execReservedEDH (s : State) : Host.Outcome State Fault Refusal := finish (reservedOp 0xED s)

/-- RESERVED F4H (R163). -/
def execReservedF4H (s : State) : Host.Outcome State Fault Refusal := finish (reservedOp 0xF4 s)

/-- RESERVED FCH (R163). -/
def execReservedFCH (s : State) : Host.Outcome State Fault Refusal := finish (reservedOp 0xFC s)

/-- RESERVED FDH (R163). -/
def execReservedFDH (s : State) : Host.Outcome State Fault Refusal := finish (reservedOp 0xFD s)

/-- PREFIX CB (R164). -/
def execPrefixCB (op : Byte) (s : State) : Host.Outcome State Fault Refusal := finish (runCBEntry op s)

end Sys2Proof.Machine
end

