-- ==== Sys2Proof/Machine/Dispatch.lean ====
section
/-! DEFINITION. Dispatch: one arm per row of the opcode table, each one call of the row's meaning (spec/30_encoding.md
R66, R67: `e.handler(operand)`, run with PC already past the instruction). -/

namespace Sys2Proof.Machine

def exec (i : Instr) (s : State) : Host.Outcome State Fault Refusal :=
  match i with
  -- Increment and decrement (spec/41_inc_dec.md)
  | .incB => Sys2Proof.Machine.execIncB s
  | .incC => Sys2Proof.Machine.execIncC s
  | .incD => Sys2Proof.Machine.execIncD s
  | .incE => Sys2Proof.Machine.execIncE s
  | .incH => Sys2Proof.Machine.execIncH s
  | .incL => Sys2Proof.Machine.execIncL s
  | .incA => Sys2Proof.Machine.execIncA s
  | .incAtHL => Sys2Proof.Machine.execIncAtHL s
  | .decB => Sys2Proof.Machine.execDecB s
  | .decC => Sys2Proof.Machine.execDecC s
  | .decD => Sys2Proof.Machine.execDecD s
  | .decE => Sys2Proof.Machine.execDecE s
  | .decH => Sys2Proof.Machine.execDecH s
  | .decL => Sys2Proof.Machine.execDecL s
  | .decA => Sys2Proof.Machine.execDecA s
  | .decAtHL => Sys2Proof.Machine.execDecAtHL s
  | .incBC => Sys2Proof.Machine.execIncBC s
  | .incDE => Sys2Proof.Machine.execIncDE s
  | .incHL => Sys2Proof.Machine.execIncHL s
  | .incSP => Sys2Proof.Machine.execIncSP s
  | .decBC => Sys2Proof.Machine.execDecBC s
  | .decDE => Sys2Proof.Machine.execDecDE s
  | .decHL => Sys2Proof.Machine.execDecHL s
  | .decSP => Sys2Proof.Machine.execDecSP s
  -- 8-bit ALU, 16-bit add, decimal adjust, flag instructions (spec/42_alu.md)
  | .addA_B => Sys2Proof.Machine.execAddA_B s
  | .addA_C => Sys2Proof.Machine.execAddA_C s
  | .addA_D => Sys2Proof.Machine.execAddA_D s
  | .addA_E => Sys2Proof.Machine.execAddA_E s
  | .addA_H => Sys2Proof.Machine.execAddA_H s
  | .addA_L => Sys2Proof.Machine.execAddA_L s
  | .addA_atHL => Sys2Proof.Machine.execAddA_atHL s
  | .addA_A => Sys2Proof.Machine.execAddA_A s
  | .addA_d8 n => Sys2Proof.Machine.execAddA_d8 n s
  | .adcA_B => Sys2Proof.Machine.execAdcA_B s
  | .adcA_C => Sys2Proof.Machine.execAdcA_C s
  | .adcA_D => Sys2Proof.Machine.execAdcA_D s
  | .adcA_E => Sys2Proof.Machine.execAdcA_E s
  | .adcA_H => Sys2Proof.Machine.execAdcA_H s
  | .adcA_L => Sys2Proof.Machine.execAdcA_L s
  | .adcA_atHL => Sys2Proof.Machine.execAdcA_atHL s
  | .adcA_A => Sys2Proof.Machine.execAdcA_A s
  | .adcA_d8 n => Sys2Proof.Machine.execAdcA_d8 n s
  | .subA_B => Sys2Proof.Machine.execSubA_B s
  | .subA_C => Sys2Proof.Machine.execSubA_C s
  | .subA_D => Sys2Proof.Machine.execSubA_D s
  | .subA_E => Sys2Proof.Machine.execSubA_E s
  | .subA_H => Sys2Proof.Machine.execSubA_H s
  | .subA_L => Sys2Proof.Machine.execSubA_L s
  | .subA_atHL => Sys2Proof.Machine.execSubA_atHL s
  | .subA_A => Sys2Proof.Machine.execSubA_A s
  | .subA_d8 n => Sys2Proof.Machine.execSubA_d8 n s
  | .sbcA_B => Sys2Proof.Machine.execSbcA_B s
  | .sbcA_C => Sys2Proof.Machine.execSbcA_C s
  | .sbcA_D => Sys2Proof.Machine.execSbcA_D s
  | .sbcA_E => Sys2Proof.Machine.execSbcA_E s
  | .sbcA_H => Sys2Proof.Machine.execSbcA_H s
  | .sbcA_L => Sys2Proof.Machine.execSbcA_L s
  | .sbcA_atHL => Sys2Proof.Machine.execSbcA_atHL s
  | .sbcA_A => Sys2Proof.Machine.execSbcA_A s
  | .sbcA_d8 n => Sys2Proof.Machine.execSbcA_d8 n s
  | .andA_B => Sys2Proof.Machine.execAndA_B s
  | .andA_C => Sys2Proof.Machine.execAndA_C s
  | .andA_D => Sys2Proof.Machine.execAndA_D s
  | .andA_E => Sys2Proof.Machine.execAndA_E s
  | .andA_H => Sys2Proof.Machine.execAndA_H s
  | .andA_L => Sys2Proof.Machine.execAndA_L s
  | .andA_atHL => Sys2Proof.Machine.execAndA_atHL s
  | .andA_A => Sys2Proof.Machine.execAndA_A s
  | .andA_d8 n => Sys2Proof.Machine.execAndA_d8 n s
  | .xorA_B => Sys2Proof.Machine.execXorA_B s
  | .xorA_C => Sys2Proof.Machine.execXorA_C s
  | .xorA_D => Sys2Proof.Machine.execXorA_D s
  | .xorA_E => Sys2Proof.Machine.execXorA_E s
  | .xorA_H => Sys2Proof.Machine.execXorA_H s
  | .xorA_L => Sys2Proof.Machine.execXorA_L s
  | .xorA_atHL => Sys2Proof.Machine.execXorA_atHL s
  | .xorA_A => Sys2Proof.Machine.execXorA_A s
  | .xorA_d8 n => Sys2Proof.Machine.execXorA_d8 n s
  | .orA_B => Sys2Proof.Machine.execOrA_B s
  | .orA_C => Sys2Proof.Machine.execOrA_C s
  | .orA_D => Sys2Proof.Machine.execOrA_D s
  | .orA_E => Sys2Proof.Machine.execOrA_E s
  | .orA_H => Sys2Proof.Machine.execOrA_H s
  | .orA_L => Sys2Proof.Machine.execOrA_L s
  | .orA_atHL => Sys2Proof.Machine.execOrA_atHL s
  | .orA_A => Sys2Proof.Machine.execOrA_A s
  | .orA_d8 n => Sys2Proof.Machine.execOrA_d8 n s
  | .cpA_B => Sys2Proof.Machine.execCpA_B s
  | .cpA_C => Sys2Proof.Machine.execCpA_C s
  | .cpA_D => Sys2Proof.Machine.execCpA_D s
  | .cpA_E => Sys2Proof.Machine.execCpA_E s
  | .cpA_H => Sys2Proof.Machine.execCpA_H s
  | .cpA_L => Sys2Proof.Machine.execCpA_L s
  | .cpA_atHL => Sys2Proof.Machine.execCpA_atHL s
  | .cpA_A => Sys2Proof.Machine.execCpA_A s
  | .cpA_d8 n => Sys2Proof.Machine.execCpA_d8 n s
  | .addHL_BC => Sys2Proof.Machine.execAddHL_BC s
  | .addHL_DE => Sys2Proof.Machine.execAddHL_DE s
  | .addHL_HL => Sys2Proof.Machine.execAddHL_HL s
  | .addHL_SP => Sys2Proof.Machine.execAddHL_SP s
  | .addSP_e8 e => Sys2Proof.Machine.execAddSP_e8 e s
  | .daa => Sys2Proof.Machine.execDaa s
  | .cpl => Sys2Proof.Machine.execCpl s
  | .scf => Sys2Proof.Machine.execScf s
  | .ccf => Sys2Proof.Machine.execCcf s
  -- Rotates, shifts and SWAP (spec/43_rotate_shift_bit.md)
  | .rlca => Sys2Proof.Machine.execRlca s
  | .rla => Sys2Proof.Machine.execRla s
  | .rrca => Sys2Proof.Machine.execRrca s
  | .rra => Sys2Proof.Machine.execRra s
  | .rlc_B => Sys2Proof.Machine.execRlc_B s
  | .rlc_C => Sys2Proof.Machine.execRlc_C s
  | .rlc_D => Sys2Proof.Machine.execRlc_D s
  | .rlc_E => Sys2Proof.Machine.execRlc_E s
  | .rlc_H => Sys2Proof.Machine.execRlc_H s
  | .rlc_L => Sys2Proof.Machine.execRlc_L s
  | .rlc_A => Sys2Proof.Machine.execRlc_A s
  | .rlc_atHL => Sys2Proof.Machine.execRlc_atHL s
  | .rrc_B => Sys2Proof.Machine.execRrc_B s
  | .rrc_C => Sys2Proof.Machine.execRrc_C s
  | .rrc_D => Sys2Proof.Machine.execRrc_D s
  | .rrc_E => Sys2Proof.Machine.execRrc_E s
  | .rrc_H => Sys2Proof.Machine.execRrc_H s
  | .rrc_L => Sys2Proof.Machine.execRrc_L s
  | .rrc_A => Sys2Proof.Machine.execRrc_A s
  | .rrc_atHL => Sys2Proof.Machine.execRrc_atHL s
  | .rl_B => Sys2Proof.Machine.execRl_B s
  | .rl_C => Sys2Proof.Machine.execRl_C s
  | .rl_D => Sys2Proof.Machine.execRl_D s
  | .rl_E => Sys2Proof.Machine.execRl_E s
  | .rl_H => Sys2Proof.Machine.execRl_H s
  | .rl_L => Sys2Proof.Machine.execRl_L s
  | .rl_A => Sys2Proof.Machine.execRl_A s
  | .rl_atHL => Sys2Proof.Machine.execRl_atHL s
  | .rr_B => Sys2Proof.Machine.execRr_B s
  | .rr_C => Sys2Proof.Machine.execRr_C s
  | .rr_D => Sys2Proof.Machine.execRr_D s
  | .rr_E => Sys2Proof.Machine.execRr_E s
  | .rr_H => Sys2Proof.Machine.execRr_H s
  | .rr_L => Sys2Proof.Machine.execRr_L s
  | .rr_A => Sys2Proof.Machine.execRr_A s
  | .rr_atHL => Sys2Proof.Machine.execRr_atHL s
  | .sla_B => Sys2Proof.Machine.execSla_B s
  | .sla_C => Sys2Proof.Machine.execSla_C s
  | .sla_D => Sys2Proof.Machine.execSla_D s
  | .sla_E => Sys2Proof.Machine.execSla_E s
  | .sla_H => Sys2Proof.Machine.execSla_H s
  | .sla_L => Sys2Proof.Machine.execSla_L s
  | .sla_A => Sys2Proof.Machine.execSla_A s
  | .sla_atHL => Sys2Proof.Machine.execSla_atHL s
  | .sra_B => Sys2Proof.Machine.execSra_B s
  | .sra_C => Sys2Proof.Machine.execSra_C s
  | .sra_D => Sys2Proof.Machine.execSra_D s
  | .sra_E => Sys2Proof.Machine.execSra_E s
  | .sra_H => Sys2Proof.Machine.execSra_H s
  | .sra_L => Sys2Proof.Machine.execSra_L s
  | .sra_A => Sys2Proof.Machine.execSra_A s
  | .sra_atHL => Sys2Proof.Machine.execSra_atHL s
  | .srl_B => Sys2Proof.Machine.execSrl_B s
  | .srl_C => Sys2Proof.Machine.execSrl_C s
  | .srl_D => Sys2Proof.Machine.execSrl_D s
  | .srl_E => Sys2Proof.Machine.execSrl_E s
  | .srl_H => Sys2Proof.Machine.execSrl_H s
  | .srl_L => Sys2Proof.Machine.execSrl_L s
  | .srl_A => Sys2Proof.Machine.execSrl_A s
  | .srl_atHL => Sys2Proof.Machine.execSrl_atHL s
  | .swap_B => Sys2Proof.Machine.execSwap_B s
  | .swap_C => Sys2Proof.Machine.execSwap_C s
  | .swap_D => Sys2Proof.Machine.execSwap_D s
  | .swap_E => Sys2Proof.Machine.execSwap_E s
  | .swap_H => Sys2Proof.Machine.execSwap_H s
  | .swap_L => Sys2Proof.Machine.execSwap_L s
  | .swap_A => Sys2Proof.Machine.execSwap_A s
  | .swap_atHL => Sys2Proof.Machine.execSwap_atHL s
  -- Single-bit instructions (spec/43_rotate_shift_bit.md section 5)
  | .bit0_B => Sys2Proof.Machine.execBit0_B s
  | .bit0_C => Sys2Proof.Machine.execBit0_C s
  | .bit0_D => Sys2Proof.Machine.execBit0_D s
  | .bit0_E => Sys2Proof.Machine.execBit0_E s
  | .bit0_H => Sys2Proof.Machine.execBit0_H s
  | .bit0_L => Sys2Proof.Machine.execBit0_L s
  | .bit0_A => Sys2Proof.Machine.execBit0_A s
  | .bit1_B => Sys2Proof.Machine.execBit1_B s
  | .bit1_C => Sys2Proof.Machine.execBit1_C s
  | .bit1_D => Sys2Proof.Machine.execBit1_D s
  | .bit1_E => Sys2Proof.Machine.execBit1_E s
  | .bit1_H => Sys2Proof.Machine.execBit1_H s
  | .bit1_L => Sys2Proof.Machine.execBit1_L s
  | .bit1_A => Sys2Proof.Machine.execBit1_A s
  | .bit2_B => Sys2Proof.Machine.execBit2_B s
  | .bit2_C => Sys2Proof.Machine.execBit2_C s
  | .bit2_D => Sys2Proof.Machine.execBit2_D s
  | .bit2_E => Sys2Proof.Machine.execBit2_E s
  | .bit2_H => Sys2Proof.Machine.execBit2_H s
  | .bit2_L => Sys2Proof.Machine.execBit2_L s
  | .bit2_A => Sys2Proof.Machine.execBit2_A s
  | .bit3_B => Sys2Proof.Machine.execBit3_B s
  | .bit3_C => Sys2Proof.Machine.execBit3_C s
  | .bit3_D => Sys2Proof.Machine.execBit3_D s
  | .bit3_E => Sys2Proof.Machine.execBit3_E s
  | .bit3_H => Sys2Proof.Machine.execBit3_H s
  | .bit3_L => Sys2Proof.Machine.execBit3_L s
  | .bit3_A => Sys2Proof.Machine.execBit3_A s
  | .bit4_B => Sys2Proof.Machine.execBit4_B s
  | .bit4_C => Sys2Proof.Machine.execBit4_C s
  | .bit4_D => Sys2Proof.Machine.execBit4_D s
  | .bit4_E => Sys2Proof.Machine.execBit4_E s
  | .bit4_H => Sys2Proof.Machine.execBit4_H s
  | .bit4_L => Sys2Proof.Machine.execBit4_L s
  | .bit4_A => Sys2Proof.Machine.execBit4_A s
  | .bit5_B => Sys2Proof.Machine.execBit5_B s
  | .bit5_C => Sys2Proof.Machine.execBit5_C s
  | .bit5_D => Sys2Proof.Machine.execBit5_D s
  | .bit5_E => Sys2Proof.Machine.execBit5_E s
  | .bit5_H => Sys2Proof.Machine.execBit5_H s
  | .bit5_L => Sys2Proof.Machine.execBit5_L s
  | .bit5_A => Sys2Proof.Machine.execBit5_A s
  | .bit6_B => Sys2Proof.Machine.execBit6_B s
  | .bit6_C => Sys2Proof.Machine.execBit6_C s
  | .bit6_D => Sys2Proof.Machine.execBit6_D s
  | .bit6_E => Sys2Proof.Machine.execBit6_E s
  | .bit6_H => Sys2Proof.Machine.execBit6_H s
  | .bit6_L => Sys2Proof.Machine.execBit6_L s
  | .bit6_A => Sys2Proof.Machine.execBit6_A s
  | .bit7_B => Sys2Proof.Machine.execBit7_B s
  | .bit7_C => Sys2Proof.Machine.execBit7_C s
  | .bit7_D => Sys2Proof.Machine.execBit7_D s
  | .bit7_E => Sys2Proof.Machine.execBit7_E s
  | .bit7_H => Sys2Proof.Machine.execBit7_H s
  | .bit7_L => Sys2Proof.Machine.execBit7_L s
  | .bit7_A => Sys2Proof.Machine.execBit7_A s
  | .bit0_atHL => Sys2Proof.Machine.execBit0_atHL s
  | .bit1_atHL => Sys2Proof.Machine.execBit1_atHL s
  | .bit2_atHL => Sys2Proof.Machine.execBit2_atHL s
  | .bit3_atHL => Sys2Proof.Machine.execBit3_atHL s
  | .bit4_atHL => Sys2Proof.Machine.execBit4_atHL s
  | .bit5_atHL => Sys2Proof.Machine.execBit5_atHL s
  | .bit6_atHL => Sys2Proof.Machine.execBit6_atHL s
  | .bit7_atHL => Sys2Proof.Machine.execBit7_atHL s
  | .res0_B => Sys2Proof.Machine.execRes0_B s
  | .res0_C => Sys2Proof.Machine.execRes0_C s
  | .res0_D => Sys2Proof.Machine.execRes0_D s
  | .res0_E => Sys2Proof.Machine.execRes0_E s
  | .res0_H => Sys2Proof.Machine.execRes0_H s
  | .res0_L => Sys2Proof.Machine.execRes0_L s
  | .res0_A => Sys2Proof.Machine.execRes0_A s
  | .res1_B => Sys2Proof.Machine.execRes1_B s
  | .res1_C => Sys2Proof.Machine.execRes1_C s
  | .res1_D => Sys2Proof.Machine.execRes1_D s
  | .res1_E => Sys2Proof.Machine.execRes1_E s
  | .res1_H => Sys2Proof.Machine.execRes1_H s
  | .res1_L => Sys2Proof.Machine.execRes1_L s
  | .res1_A => Sys2Proof.Machine.execRes1_A s
  | .res2_B => Sys2Proof.Machine.execRes2_B s
  | .res2_C => Sys2Proof.Machine.execRes2_C s
  | .res2_D => Sys2Proof.Machine.execRes2_D s
  | .res2_E => Sys2Proof.Machine.execRes2_E s
  | .res2_H => Sys2Proof.Machine.execRes2_H s
  | .res2_L => Sys2Proof.Machine.execRes2_L s
  | .res2_A => Sys2Proof.Machine.execRes2_A s
  | .res3_B => Sys2Proof.Machine.execRes3_B s
  | .res3_C => Sys2Proof.Machine.execRes3_C s
  | .res3_D => Sys2Proof.Machine.execRes3_D s
  | .res3_E => Sys2Proof.Machine.execRes3_E s
  | .res3_H => Sys2Proof.Machine.execRes3_H s
  | .res3_L => Sys2Proof.Machine.execRes3_L s
  | .res3_A => Sys2Proof.Machine.execRes3_A s
  | .res4_B => Sys2Proof.Machine.execRes4_B s
  | .res4_C => Sys2Proof.Machine.execRes4_C s
  | .res4_D => Sys2Proof.Machine.execRes4_D s
  | .res4_E => Sys2Proof.Machine.execRes4_E s
  | .res4_H => Sys2Proof.Machine.execRes4_H s
  | .res4_L => Sys2Proof.Machine.execRes4_L s
  | .res4_A => Sys2Proof.Machine.execRes4_A s
  | .res5_B => Sys2Proof.Machine.execRes5_B s
  | .res5_C => Sys2Proof.Machine.execRes5_C s
  | .res5_D => Sys2Proof.Machine.execRes5_D s
  | .res5_E => Sys2Proof.Machine.execRes5_E s
  | .res5_H => Sys2Proof.Machine.execRes5_H s
  | .res5_L => Sys2Proof.Machine.execRes5_L s
  | .res5_A => Sys2Proof.Machine.execRes5_A s
  | .res6_B => Sys2Proof.Machine.execRes6_B s
  | .res6_C => Sys2Proof.Machine.execRes6_C s
  | .res6_D => Sys2Proof.Machine.execRes6_D s
  | .res6_E => Sys2Proof.Machine.execRes6_E s
  | .res6_H => Sys2Proof.Machine.execRes6_H s
  | .res6_L => Sys2Proof.Machine.execRes6_L s
  | .res6_A => Sys2Proof.Machine.execRes6_A s
  | .res7_B => Sys2Proof.Machine.execRes7_B s
  | .res7_C => Sys2Proof.Machine.execRes7_C s
  | .res7_D => Sys2Proof.Machine.execRes7_D s
  | .res7_E => Sys2Proof.Machine.execRes7_E s
  | .res7_H => Sys2Proof.Machine.execRes7_H s
  | .res7_L => Sys2Proof.Machine.execRes7_L s
  | .res7_A => Sys2Proof.Machine.execRes7_A s
  | .res0_atHL => Sys2Proof.Machine.execRes0_atHL s
  | .res1_atHL => Sys2Proof.Machine.execRes1_atHL s
  | .res2_atHL => Sys2Proof.Machine.execRes2_atHL s
  | .res3_atHL => Sys2Proof.Machine.execRes3_atHL s
  | .res4_atHL => Sys2Proof.Machine.execRes4_atHL s
  | .res5_atHL => Sys2Proof.Machine.execRes5_atHL s
  | .res6_atHL => Sys2Proof.Machine.execRes6_atHL s
  | .res7_atHL => Sys2Proof.Machine.execRes7_atHL s
  | .set0_B => Sys2Proof.Machine.execSet0_B s
  | .set0_C => Sys2Proof.Machine.execSet0_C s
  | .set0_D => Sys2Proof.Machine.execSet0_D s
  | .set0_E => Sys2Proof.Machine.execSet0_E s
  | .set0_H => Sys2Proof.Machine.execSet0_H s
  | .set0_L => Sys2Proof.Machine.execSet0_L s
  | .set0_A => Sys2Proof.Machine.execSet0_A s
  | .set1_B => Sys2Proof.Machine.execSet1_B s
  | .set1_C => Sys2Proof.Machine.execSet1_C s
  | .set1_D => Sys2Proof.Machine.execSet1_D s
  | .set1_E => Sys2Proof.Machine.execSet1_E s
  | .set1_H => Sys2Proof.Machine.execSet1_H s
  | .set1_L => Sys2Proof.Machine.execSet1_L s
  | .set1_A => Sys2Proof.Machine.execSet1_A s
  | .set2_B => Sys2Proof.Machine.execSet2_B s
  | .set2_C => Sys2Proof.Machine.execSet2_C s
  | .set2_D => Sys2Proof.Machine.execSet2_D s
  | .set2_E => Sys2Proof.Machine.execSet2_E s
  | .set2_H => Sys2Proof.Machine.execSet2_H s
  | .set2_L => Sys2Proof.Machine.execSet2_L s
  | .set2_A => Sys2Proof.Machine.execSet2_A s
  | .set3_B => Sys2Proof.Machine.execSet3_B s
  | .set3_C => Sys2Proof.Machine.execSet3_C s
  | .set3_D => Sys2Proof.Machine.execSet3_D s
  | .set3_E => Sys2Proof.Machine.execSet3_E s
  | .set3_H => Sys2Proof.Machine.execSet3_H s
  | .set3_L => Sys2Proof.Machine.execSet3_L s
  | .set3_A => Sys2Proof.Machine.execSet3_A s
  | .set4_B => Sys2Proof.Machine.execSet4_B s
  | .set4_C => Sys2Proof.Machine.execSet4_C s
  | .set4_D => Sys2Proof.Machine.execSet4_D s
  | .set4_E => Sys2Proof.Machine.execSet4_E s
  | .set4_H => Sys2Proof.Machine.execSet4_H s
  | .set4_L => Sys2Proof.Machine.execSet4_L s
  | .set4_A => Sys2Proof.Machine.execSet4_A s
  | .set5_B => Sys2Proof.Machine.execSet5_B s
  | .set5_C => Sys2Proof.Machine.execSet5_C s
  | .set5_D => Sys2Proof.Machine.execSet5_D s
  | .set5_E => Sys2Proof.Machine.execSet5_E s
  | .set5_H => Sys2Proof.Machine.execSet5_H s
  | .set5_L => Sys2Proof.Machine.execSet5_L s
  | .set5_A => Sys2Proof.Machine.execSet5_A s
  | .set6_B => Sys2Proof.Machine.execSet6_B s
  | .set6_C => Sys2Proof.Machine.execSet6_C s
  | .set6_D => Sys2Proof.Machine.execSet6_D s
  | .set6_E => Sys2Proof.Machine.execSet6_E s
  | .set6_H => Sys2Proof.Machine.execSet6_H s
  | .set6_L => Sys2Proof.Machine.execSet6_L s
  | .set6_A => Sys2Proof.Machine.execSet6_A s
  | .set7_B => Sys2Proof.Machine.execSet7_B s
  | .set7_C => Sys2Proof.Machine.execSet7_C s
  | .set7_D => Sys2Proof.Machine.execSet7_D s
  | .set7_E => Sys2Proof.Machine.execSet7_E s
  | .set7_H => Sys2Proof.Machine.execSet7_H s
  | .set7_L => Sys2Proof.Machine.execSet7_L s
  | .set7_A => Sys2Proof.Machine.execSet7_A s
  | .set0_atHL => Sys2Proof.Machine.execSet0_atHL s
  | .set1_atHL => Sys2Proof.Machine.execSet1_atHL s
  | .set2_atHL => Sys2Proof.Machine.execSet2_atHL s
  | .set3_atHL => Sys2Proof.Machine.execSet3_atHL s
  | .set4_atHL => Sys2Proof.Machine.execSet4_atHL s
  | .set5_atHL => Sys2Proof.Machine.execSet5_atHL s
  | .set6_atHL => Sys2Proof.Machine.execSet6_atHL s
  | .set7_atHL => Sys2Proof.Machine.execSet7_atHL s
  -- Loads, stores and stack transfers (spec/44_loads.md)
  | .ldB_B => Sys2Proof.Machine.execLdB_B s
  | .ldB_C => Sys2Proof.Machine.execLdB_C s
  | .ldB_D => Sys2Proof.Machine.execLdB_D s
  | .ldB_E => Sys2Proof.Machine.execLdB_E s
  | .ldB_H => Sys2Proof.Machine.execLdB_H s
  | .ldB_L => Sys2Proof.Machine.execLdB_L s
  | .ldB_A => Sys2Proof.Machine.execLdB_A s
  | .ldC_B => Sys2Proof.Machine.execLdC_B s
  | .ldC_C => Sys2Proof.Machine.execLdC_C s
  | .ldC_D => Sys2Proof.Machine.execLdC_D s
  | .ldC_E => Sys2Proof.Machine.execLdC_E s
  | .ldC_H => Sys2Proof.Machine.execLdC_H s
  | .ldC_L => Sys2Proof.Machine.execLdC_L s
  | .ldC_A => Sys2Proof.Machine.execLdC_A s
  | .ldD_B => Sys2Proof.Machine.execLdD_B s
  | .ldD_C => Sys2Proof.Machine.execLdD_C s
  | .ldD_D => Sys2Proof.Machine.execLdD_D s
  | .ldD_E => Sys2Proof.Machine.execLdD_E s
  | .ldD_H => Sys2Proof.Machine.execLdD_H s
  | .ldD_L => Sys2Proof.Machine.execLdD_L s
  | .ldD_A => Sys2Proof.Machine.execLdD_A s
  | .ldE_B => Sys2Proof.Machine.execLdE_B s
  | .ldE_C => Sys2Proof.Machine.execLdE_C s
  | .ldE_D => Sys2Proof.Machine.execLdE_D s
  | .ldE_E => Sys2Proof.Machine.execLdE_E s
  | .ldE_H => Sys2Proof.Machine.execLdE_H s
  | .ldE_L => Sys2Proof.Machine.execLdE_L s
  | .ldE_A => Sys2Proof.Machine.execLdE_A s
  | .ldH_B => Sys2Proof.Machine.execLdH_B s
  | .ldH_C => Sys2Proof.Machine.execLdH_C s
  | .ldH_D => Sys2Proof.Machine.execLdH_D s
  | .ldH_E => Sys2Proof.Machine.execLdH_E s
  | .ldH_H => Sys2Proof.Machine.execLdH_H s
  | .ldH_L => Sys2Proof.Machine.execLdH_L s
  | .ldH_A => Sys2Proof.Machine.execLdH_A s
  | .ldL_B => Sys2Proof.Machine.execLdL_B s
  | .ldL_C => Sys2Proof.Machine.execLdL_C s
  | .ldL_D => Sys2Proof.Machine.execLdL_D s
  | .ldL_E => Sys2Proof.Machine.execLdL_E s
  | .ldL_H => Sys2Proof.Machine.execLdL_H s
  | .ldL_L => Sys2Proof.Machine.execLdL_L s
  | .ldL_A => Sys2Proof.Machine.execLdL_A s
  | .ldA_B => Sys2Proof.Machine.execLdA_B s
  | .ldA_C => Sys2Proof.Machine.execLdA_C s
  | .ldA_D => Sys2Proof.Machine.execLdA_D s
  | .ldA_E => Sys2Proof.Machine.execLdA_E s
  | .ldA_H => Sys2Proof.Machine.execLdA_H s
  | .ldA_L => Sys2Proof.Machine.execLdA_L s
  | .ldA_A => Sys2Proof.Machine.execLdA_A s
  | .ldB_d8 n => Sys2Proof.Machine.execLdB_d8 n s
  | .ldC_d8 n => Sys2Proof.Machine.execLdC_d8 n s
  | .ldD_d8 n => Sys2Proof.Machine.execLdD_d8 n s
  | .ldE_d8 n => Sys2Proof.Machine.execLdE_d8 n s
  | .ldH_d8 n => Sys2Proof.Machine.execLdH_d8 n s
  | .ldL_d8 n => Sys2Proof.Machine.execLdL_d8 n s
  | .ldA_d8 n => Sys2Proof.Machine.execLdA_d8 n s
  | .ldB_atHL => Sys2Proof.Machine.execLdB_atHL s
  | .ldC_atHL => Sys2Proof.Machine.execLdC_atHL s
  | .ldD_atHL => Sys2Proof.Machine.execLdD_atHL s
  | .ldE_atHL => Sys2Proof.Machine.execLdE_atHL s
  | .ldH_atHL => Sys2Proof.Machine.execLdH_atHL s
  | .ldL_atHL => Sys2Proof.Machine.execLdL_atHL s
  | .ldA_atHL => Sys2Proof.Machine.execLdA_atHL s
  | .ldAtHL_B => Sys2Proof.Machine.execLdAtHL_B s
  | .ldAtHL_C => Sys2Proof.Machine.execLdAtHL_C s
  | .ldAtHL_D => Sys2Proof.Machine.execLdAtHL_D s
  | .ldAtHL_E => Sys2Proof.Machine.execLdAtHL_E s
  | .ldAtHL_H => Sys2Proof.Machine.execLdAtHL_H s
  | .ldAtHL_L => Sys2Proof.Machine.execLdAtHL_L s
  | .ldAtHL_A => Sys2Proof.Machine.execLdAtHL_A s
  | .ldAtHL_d8 n => Sys2Proof.Machine.execLdAtHL_d8 n s
  | .ldAtBC_A => Sys2Proof.Machine.execLdAtBC_A s
  | .ldAtDE_A => Sys2Proof.Machine.execLdAtDE_A s
  | .ldA_atBC => Sys2Proof.Machine.execLdA_atBC s
  | .ldA_atDE => Sys2Proof.Machine.execLdA_atDE s
  | .ldAtHLinc_A => Sys2Proof.Machine.execLdAtHLinc_A s
  | .ldA_atHLinc => Sys2Proof.Machine.execLdA_atHLinc s
  | .ldAtHLdec_A => Sys2Proof.Machine.execLdAtHLdec_A s
  | .ldA_atHLdec => Sys2Proof.Machine.execLdA_atHLdec s
  | .ldhAtA8_A n => Sys2Proof.Machine.execLdhAtA8_A n s
  | .ldhA_atA8 n => Sys2Proof.Machine.execLdhA_atA8 n s
  | .ldAtC_A => Sys2Proof.Machine.execLdAtC_A s
  | .ldA_atC => Sys2Proof.Machine.execLdA_atC s
  | .ldAtA16_A a => Sys2Proof.Machine.execLdAtA16_A a s
  | .ldA_atA16 a => Sys2Proof.Machine.execLdA_atA16 a s
  | .ldBC_d16 n => Sys2Proof.Machine.execLdBC_d16 n s
  | .ldDE_d16 n => Sys2Proof.Machine.execLdDE_d16 n s
  | .ldHL_d16 n => Sys2Proof.Machine.execLdHL_d16 n s
  | .ldSP_d16 n => Sys2Proof.Machine.execLdSP_d16 n s
  | .ldAtA16_SP a => Sys2Proof.Machine.execLdAtA16_SP a s
  | .ldSP_HL => Sys2Proof.Machine.execLdSP_HL s
  | .ldHL_SPe8 e => Sys2Proof.Machine.execLdHL_SPe8 e s
  | .pushBC => Sys2Proof.Machine.execPushBC s
  | .pushDE => Sys2Proof.Machine.execPushDE s
  | .pushHL => Sys2Proof.Machine.execPushHL s
  | .pushAF => Sys2Proof.Machine.execPushAF s
  | .popBC => Sys2Proof.Machine.execPopBC s
  | .popDE => Sys2Proof.Machine.execPopDE s
  | .popHL => Sys2Proof.Machine.execPopHL s
  | .popAF => Sys2Proof.Machine.execPopAF s
  -- Control transfer (spec/45_control.md)
  | .jp_a16 a => Sys2Proof.Machine.execJp_a16 a s
  | .jpNZ_a16 a => Sys2Proof.Machine.execJpNZ_a16 a s
  | .jpZ_a16 a => Sys2Proof.Machine.execJpZ_a16 a s
  | .jpNC_a16 a => Sys2Proof.Machine.execJpNC_a16 a s
  | .jpC_a16 a => Sys2Proof.Machine.execJpC_a16 a s
  | .jpHL => Sys2Proof.Machine.execJpHL s
  | .jr_e8 e => Sys2Proof.Machine.execJr_e8 e s
  | .jrNZ_e8 e => Sys2Proof.Machine.execJrNZ_e8 e s
  | .jrZ_e8 e => Sys2Proof.Machine.execJrZ_e8 e s
  | .jrNC_e8 e => Sys2Proof.Machine.execJrNC_e8 e s
  | .jrC_e8 e => Sys2Proof.Machine.execJrC_e8 e s
  | .call_a16 a => Sys2Proof.Machine.execCall_a16 a s
  | .callNZ_a16 a => Sys2Proof.Machine.execCallNZ_a16 a s
  | .callZ_a16 a => Sys2Proof.Machine.execCallZ_a16 a s
  | .callNC_a16 a => Sys2Proof.Machine.execCallNC_a16 a s
  | .callC_a16 a => Sys2Proof.Machine.execCallC_a16 a s
  | .ret => Sys2Proof.Machine.execRet s
  | .retNZ => Sys2Proof.Machine.execRetNZ s
  | .retZ => Sys2Proof.Machine.execRetZ s
  | .retNC => Sys2Proof.Machine.execRetNC s
  | .retC => Sys2Proof.Machine.execRetC s
  | .reti => Sys2Proof.Machine.execReti s
  | .rst00H => Sys2Proof.Machine.execRst00H s
  | .rst08H => Sys2Proof.Machine.execRst08H s
  | .rst10H => Sys2Proof.Machine.execRst10H s
  | .rst18H => Sys2Proof.Machine.execRst18H s
  | .rst20H => Sys2Proof.Machine.execRst20H s
  | .rst28H => Sys2Proof.Machine.execRst28H s
  | .rst30H => Sys2Proof.Machine.execRst30H s
  | .rst38H => Sys2Proof.Machine.execRst38H s
  -- Miscellaneous, unimplemented, reserved, prefix (spec/46_misc.md)
  | .nop => Sys2Proof.Machine.execNop s
  | .halt => Sys2Proof.Machine.execHalt s
  | .stop n => Sys2Proof.Machine.execStop n s
  | .di => Sys2Proof.Machine.execDi s
  | .ei => Sys2Proof.Machine.execEi s
  | .reservedD3H => Sys2Proof.Machine.execReservedD3H s
  | .reservedDBH => Sys2Proof.Machine.execReservedDBH s
  | .reservedDDH => Sys2Proof.Machine.execReservedDDH s
  | .reservedE3H => Sys2Proof.Machine.execReservedE3H s
  | .reservedE4H => Sys2Proof.Machine.execReservedE4H s
  | .reservedEBH => Sys2Proof.Machine.execReservedEBH s
  | .reservedECH => Sys2Proof.Machine.execReservedECH s
  | .reservedEDH => Sys2Proof.Machine.execReservedEDH s
  | .reservedF4H => Sys2Proof.Machine.execReservedF4H s
  | .reservedFCH => Sys2Proof.Machine.execReservedFCH s
  | .reservedFDH => Sys2Proof.Machine.execReservedFDH s
  | .prefixCB op => Sys2Proof.Machine.execPrefixCB op s

end Sys2Proof.Machine
end

