-- ==== Sys2Proof/Machine/Fetch.lean ====
section
/-! DEFINITION. Fetching an instruction (spec/30_encoding.md R67) and placing its bytes. -/

namespace Sys2Proof.Machine

/-- A fetched instruction and the address of the byte after it, PC_next. -/
structure Fetched where
  instr : Instr
  next : Word
deriving DecidableEq, Repr

/-- Reads and decodes the instruction at PC (R54, R67): the opcode, then the CB byte or the operand bytes in address
order, each address taken modulo 2^16 (D4), so that the first byte outside memory is the fault reported (R170). -/
def fetch (s : State) : Except Fault Fetched := do
  let op ← readByte s s.pc
  match instrLength op with
  | 1 => .ok ⟨decodeBytes op 0 0, s.pc + 1⟩
  | 2 => do
    let b1 ← readByte s (s.pc + 1)
    .ok ⟨decodeBytes op b1 0, s.pc + 2⟩
  | _ => do
    let b1 ← readByte s (s.pc + 1)
    let b2 ← readByte s (s.pc + 2)
    .ok ⟨decodeBytes op b1 b2, s.pc + 3⟩

/-- Three bytes stored from PC on, with the status Running, so that the next step fetches them. -/
def placeAtPC (s : State) (op b1 b2 : Byte) : State :=
  let m := Memory.write s.mem s.pc.toNat op
  let m := Memory.write m (s.pc + 1).toNat b1
  { s with mem := Memory.write m (s.pc + 2).toNat b2, status := .running }

end Sys2Proof.Machine
end

