-- ==== Sys2Proof/Machine/Step.lean ====
section
/-! DEFINITION. The step (spec/30_encoding.md R67): fetch and decode at PC, advance PC past the whole instruction, run
the handler. A step is taken only from Running (R28, R185). -/

namespace Sys2Proof.Machine

/-- One step. A Faulted state has no step: the call is refused with the recorded fault (R185). -/
def step (s : State) : Host.Outcome State Fault Refusal :=
  match s.status with
  | .faulted f => .refused (.alreadyFaulted f)
  | .running =>
    match fetch s with
    | .error f => .fault f
    | .ok x => exec x.instr (s.setPC x.next)

/-- The state with the instruction of an opcode-table word placed where the step fetches: at PC (log entry 6). -/
def State.withFetchWord (s : State) (nbits w : Nat) : State :=
  match tableBytes nbits w with
  | (op, b1, b2) => placeAtPC s op b1 b2

end Sys2Proof.Machine
end

