-- ==== Sys2Proof/Machine/Timing.lean ====
section
/-! DEFINITION. The cycle cost of an instruction, in T-states (spec/70_reset_and_hazards.md R192). It is accounting
output only: no meaning reads it. -/

namespace Sys2Proof.Machine

/-- A cost that depends on whether the operand is the byte at HL. -/
def r8Cycles (r : R8) (reg atHL : Nat) : Nat :=
  match r with
  | .atHL => atHL
  | .b | .c | .d | .e | .h | .l | .a => reg

/-- R192's cost of a form; `taken` says whether a conditional form's condition holds. The reserved entries have no cost
(R62), and the opcode table gives the prefix row none of its own: the step returns the selected entry's. -/
def formCycles (taken : Bool) : Form → Option Nat
  | .nop | .accRot _ | .daa | .cpl | .scf | .ccf | .jpHL | .halt | .stop _ | .di | .ei => some 4
  | .inc r | .dec r => some (r8Cycles r 4 12)
  | .ldImm r _ => some (r8Cycles r 8 12)
  | .ld dst src => some (max (r8Cycles dst 4 8) (r8Cycles src 4 8))
  | .alu _ r => some (r8Cycles r 4 8)
  | .aluImm _ _ | .ldIndA _ | .ldAInd _ | .incRR _ | .decRR _ | .addHL _ | .ldCStore | .ldCLoad | .ldSPHL => some 8
  | .cb _ r | .res _ r | .set _ r => some (r8Cycles r 8 16)
  | .bit _ r => some (r8Cycles r 8 12)
  | .ldRR _ _ | .pop _ | .ldhStore _ | .ldhLoad _ | .ldHLSP _ | .jr _ => some 12
  | .push _ | .rst _ | .ret | .reti | .jp _ | .addSP _ | .ldFarStore _ | .ldFarLoad _ => some 16
  | .ldFarSP _ => some 20
  | .call _ => some 24
  | .jrCond _ _ => some (if taken then 12 else 8)
  | .jpCond _ _ => some (if taken then 16 else 12)
  | .callCond _ _ => some (if taken then 24 else 12)
  | .retCond _ => some (if taken then 20 else 8)
  | .reserved _ | .prefixCB _ => none

/-- Whether the condition of a conditional form holds; a form without one counts as taken. -/
def formTaken (s : State) : Form → Bool
  | .jrCond k _ | .jpCond k _ | .callCond k _ | .retCond k => condHolds s k
  | .nop | .ldRR _ _ | .incRR _ | .decRR _ | .addHL _ | .ldIndA _ | .ldAInd _ | .inc _ | .dec _ | .ldImm _ _ | .accRot _
  | .daa | .cpl | .scf | .ccf | .ldFarSP _ | .stop _ | .jr _ | .ld _ _ | .halt | .alu _ _ | .aluImm _ _ | .pop _
  | .push _ | .rst _ | .jp _ | .ret | .reti | .call _ | .prefixCB _ | .ldhStore _ | .ldhLoad _ | .ldCStore | .ldCLoad
  | .ldFarStore _ | .ldFarLoad _ | .addSP _ | .ldHLSP _ | .jpHL | .ldSPHL | .di | .ei | .reserved _ | .cb _ _ | .bit _ _
  | .res _ _ | .set _ _ => true

/-- The cycle cost an instruction has when it is executed in a state (R192). -/
def cycles (i : Instr) (s : State) : Option Nat := formCycles (formTaken s i.form) i.form

end Sys2Proof.Machine
end

