-- ==== Sys2Proof/Machine/HostInterface.lean ====
section
/-! DEFINITION. The host's interactions with the core (spec/70_reset_and_hazards.md R181, R184 to R187): reset from
launch parameters, the loader's write, and `step()` with its returned cost and the status after a fault. The snapshot
read (R184 (b)) is the State value itself. -/

namespace Sys2Proof.Machine

/-- What a call of `step()` returns (R185). -/
inductive StepReturn where
  | ok (cycles : Option Nat)
  | fault (f : Fault)
  | refused (r : Refusal)
deriving DecidableEq, Repr

/-- The cost of the instruction at PC. -/
def costAtPC (s : State) : Option Nat :=
  match fetch s with
  | .ok x => cycles x.instr s
  | .error _ => none

/-- A call of `step()`: the result and the state after it (R185). After a fault the state is the one before the step
with the status Faulted (R169); from a Faulted state nothing changes. -/
def hostStep (s : State) : StepReturn × State :=
  match step s with
  | .next t => (.ok (costAtPC s), t)
  | .fault f => (.fault f, s.takeFault f)
  | .refused r => (.refused r, s)

/-- The loader's memory write (R186). -/
def loaderWrite (s : State) (addr : Word) (v : Byte) : Except Fault State := writeByte s addr v

/-- The memory array that INITIAL_MEMORY gives: the listed bytes over the fill byte, inside MEM_SIZE (R181). -/
def initialMemory (memSize : Nat) : List Host.Cell → Memory
  | [] => []
  | (a, v) :: rest =>
    if a < memSize then Memory.write (initialMemory memSize rest) a v else initialMemory memSize rest

/-- The loader's writes, in order (R186). -/
def loadAll (s : State) : List (Word × Byte) → Except Fault State
  | [] => .ok s
  | (a, v) :: rest => do
    let t ← loaderWrite s a v
    loadAll t rest

/-- A machine reset (R181): the registers from the launch parameters with F[3:0] = 0, the memory array, the loader's
bytes, the status Running. A loader write outside memory is Fault(OutOfRange) and the machine never starts (R186). -/
def launch (p : Launch) : Except Fault State :=
  loadAll
    { a := p.a, f := p.f &&& 0xF0, b := p.b, c := p.c, d := p.d, e := p.e, h := p.h, l := p.l
      sp := p.sp, pc := p.pc, ime := false, mem := initialMemory p.cfg.memSize p.initial
      status := .running, cfg := p.cfg }
    p.program

end Sys2Proof.Machine
end

