-- ==== Sys2Proof/Safety.lean ====
section
/-! DEFINITION. The invariant of the machine's states, and runs (spec/70_reset_and_hazards.md R188): what it is for a
run to reach END_PC, to fault, or to do neither. -/

namespace Sys2Proof.Machine

/-- Every state the core can be in: F[3:0] = 0 (R21), MEM_SIZE in its range (R5), and memory a list of cells in the
canonical form, all below MEM_SIZE (R27). -/
structure State.Inv (s : State) : Prop where
  reservedLow : s.f &&& 0x0F = 0
  config : s.cfg.wf
  canonical : Memory.wf s.mem = true
  bounded : ∀ x ∈ s.mem, x.1 < s.cfg.memSize

/-- A state reached from another by successive steps (R188). -/
inductive Reaches : State → State → Prop where
  | refl (s : State) : Reaches s s
  | step {s t u : State} (h : Reaches s t) (hs : Machine.step t = .next u) : Reaches s u

/-- R188: a step boundary at which a run ends normally. -/
def endsNormally (endPC : Word) (s : State) : Bool := s.status == .running && s.pc == endPC

/-- How a run of at most so many steps went. -/
inductive RunResult where
  | ended (s : State)
  | stopped (f : Fault) (s : State)
  | unfinished (s : State)
deriving DecidableEq, Repr

/-- The host's loop (R68, R188): steps until PC = END_PC, a fault, or the fuel is spent. -/
def runUntil (endPC : Word) : Nat → State → RunResult
  | 0, s => if endsNormally endPC s then .ended s else .unfinished s
  | k + 1, s =>
    if endsNormally endPC s then .ended s
    else
      match step s with
      | .next t => runUntil endPC k t
      | .fault f => .stopped f (s.takeFault f)
      | .refused (.alreadyFaulted f) => .stopped f s
      | .refused _ => .unfinished s

/-- A run from a state is safe when no step it reaches faults. -/
def Safe (s : State) : Prop := ∀ t f, Reaches s t → step t ≠ .fault f

end Sys2Proof.Machine
end

