-- ==== Sys2Proof/Certificates/Slice0/Obligations.lean ====
section
/-! DEFINITION. The statements for the provers: what the machine does, rule by rule of spec/. The definitions before them
are the vocabulary they share: the codes of R56 as numbers, the frame's lists, and the shapes of one family's claims. -/

namespace Sys2Proof.Machine

/-! ## Vocabulary -/

/-- An address inside memory (R31, R34). -/
abbrev inMemory (s : State) (a : Word) : Prop := a.toNat < s.cfg.memSize

/-- The byte of memory at an address, as data. -/
abbrev peek (s : State) (a : Word) : Byte := Memory.read s.mem a.toNat

/-- The r code of R56. -/
def codeR8 : R8 → Nat
  | .b => 0 | .c => 1 | .d => 2 | .e => 3 | .h => 4 | .l => 5 | .atHL => 6 | .a => 7

/-- The rr code of R56. -/
def codeRR : RR → Nat
  | .bc => 0 | .de => 1 | .hl => 2 | .sp => 3

/-- The qq code of R56. -/
def codeQQ : QQ → Nat
  | .bc => 0 | .de => 1 | .hl => 2 | .af => 3

/-- The cc code of R56. -/
def codeCond : Cond → Nat
  | .nz => 0 | .z => 1 | .nc => 2 | .c => 3

/-- The ALU operation code of R56. -/
def codeAlu : AluOp → Nat
  | .add => 0 | .adc => 1 | .sub => 2 | .sbc => 3 | .and => 4 | .xor => 5 | .or => 6 | .cp => 7

/-- The CB operation code of R56. -/
def codeCb : CbOp → Nat
  | .rlc => 0 | .rrc => 1 | .rl => 2 | .rr => 3 | .sla => 4 | .sra => 5 | .swap => 6 | .srl => 7

/-- The pp code of the indirect A loads (R55). -/
def codeInd : Ind → Nat
  | .bc => 0 | .de => 1 | .hlInc => 2 | .hlDec => 3

/-- The reserved primary opcodes (R62). -/
def reservedOpcodes : List Byte := [0xD3, 0xDB, 0xDD, 0xE3, 0xE4, 0xEB, 0xEC, 0xED, 0xF4, 0xFC, 0xFD]

/-- The opcodes of HALT, STOP, DI and EI (R63). -/
def unimplementedOpcodes : List Byte := [0x76, 0x10, 0xF3, 0xFB]

/-- Whether a table entry is an executable instruction (R61). -/
def executable : Form → Bool
  | .halt | .stop _ | .di | .ei | .reserved _ | .prefixCB _ => false
  | _ => true

/-- A store of one byte: it completes when the address is inside memory, and changes that byte alone; else it faults. -/
def StoresByte (i : Instr) (s : State) (a : Word) (v : Byte) : Prop :=
  (inMemory s a → exec i s = .next { s with mem := Memory.write s.mem a.toNat v }) ∧
  (¬ inMemory s a → exec i s = .fault (.outOfRange a))

/-- A load of A: it completes when the address is inside memory, and changes A alone; else it faults. -/
def LoadsA (i : Instr) (s : State) (a : Word) : Prop :=
  (inMemory s a → exec i s = .next { s with a := peek s a }) ∧
  (¬ inMemory s a → exec i s = .fault (.outOfRange a))

/-- The three forms of an 8-bit ALU operation (R77): its encodings, its result on each operand form, its fault. -/
def AluForms (o : AluOp) (result : State → Byte → State) : Prop :=
  (∀ r, encode (aluInstr o r) = [BitVec.ofNat 8 (0x80 + 8 * codeAlu o + codeR8 r)]) ∧
  (∀ n, encode (aluImmInstr o n) = [BitVec.ofNat 8 (0xC6 + 8 * codeAlu o), n]) ∧
  ∀ s, (∀ r v, readR8 s r = .ok v → exec (aluInstr o r) s = .next (result s v)) ∧
    (∀ n, exec (aluImmInstr o n) s = .next (result s n)) ∧
    (¬ inMemory s s.hl → exec (aluInstr o .atHL) s = .fault (.outOfRange s.hl))

/-- The two forms of a CB rotate, shift or SWAP: its encodings, the value it writes and the flags, its fault before any
write. `res` gives the result from the operand and the incoming carry, `out` the new C from the operand. -/
def CbForms (o : CbOp) (res : Nat → Nat → Nat) (out : Nat → Bool) : Prop :=
  ∀ r, encode (cbInstr o r) = [0xCB, BitVec.ofNat 8 (8 * codeCb o + codeR8 r)] ∧
  ∀ s, (∀ v u, readR8 s r = .ok v → writeR8 s r (BitVec.ofNat 8 (res v.toNat (s.flag .c).toNat)) = .ok u →
      exec (cbInstr o r) s =
        .next { u with f := flagsByte (decide (res v.toNat (s.flag .c).toNat = 0)) false false (out v.toNat) }) ∧
    (r = .atHL → ¬ inMemory s s.hl → exec (cbInstr o r) s = .fault (.outOfRange s.hl))

/-- DAA's `document` algorithm on numbers (R88). -/
def daaDocumentNat (a : Nat) (h c : Bool) : Nat × Bool :=
  let a := if h = true ∨ a % 16 > 9 then (a + 0x06) % 256 else a
  if c = true ∨ a / 16 > 9 then ((a + 0x60) % 256, true) else (a, false)

/-- DAA's `sm83` algorithm on numbers (R88). -/
def daaSm83Nat (a : Nat) (n h c : Bool) : Nat × Bool :=
  if n = true then
    let a := if c = true then (a + 256 - 0x60) % 256 else a
    (if h = true then (a + 256 - 0x06) % 256 else a, c)
  else
    let high := decide (c = true ∨ a > 0x99)
    let a := if high = true then (a + 0x60) % 256 else a
    (if h = true ∨ a % 16 > 9 then (a + 0x06) % 256 else a, high)

/-- A push that succeeds: the high byte at SP - 1, the low byte at SP - 2 (R44). -/
def pushed (s : State) (v : Word) : State :=
  { s with sp := s.sp - 2
           mem := Memory.write (Memory.write s.mem (s.sp - 1).toNat (BitVec.ofNat 8 (v.toNat / 256)))
             (s.sp - 2).toNat (BitVec.ofNat 8 v.toNat) }

/-- The word a pop reads: the low byte at SP, the high byte at SP + 1 (R45). -/
def popped (s : State) : Word := BitVec.ofNat 16 (256 * (peek s (s.sp + 1)).toNat + (peek s s.sp).toNat)

/-- A meaning that pushes: it completes when both bytes lie in memory, and faults on the first byte that does not, the
high byte's address first (R44, R170). -/
def PushesThen (i : Instr) (s t : State) : Prop :=
  (inMemory s (s.sp - 1) → inMemory s (s.sp - 2) → exec i s = .next t) ∧
  (¬ inMemory s (s.sp - 1) → exec i s = .fault (.outOfRange (s.sp - 1))) ∧
  (inMemory s (s.sp - 1) → ¬ inMemory s (s.sp - 2) → exec i s = .fault (.outOfRange (s.sp - 2)))

/-- A meaning that pops: the same with the low byte's address first (R45, R170). -/
def PopsThen (i : Instr) (s t : State) : Prop :=
  (inMemory s s.sp → inMemory s (s.sp + 1) → exec i s = .next t) ∧
  (¬ inMemory s s.sp → exec i s = .fault (.outOfRange s.sp)) ∧
  (inMemory s s.sp → ¬ inMemory s (s.sp + 1) → exec i s = .fault (.outOfRange (s.sp + 1)))

/-! ## The lists of the frame -/

/-- The registers by name. -/
inductive Reg where
  | a | f | b | c | d | e | h | l | sp | pc | ime
deriving DecidableEq, Repr

/-- A register's value. -/
def regValue (s : State) : Reg → Nat
  | .a => s.a.toNat | .f => s.f.toNat | .b => s.b.toNat | .c => s.c.toNat | .d => s.d.toNat | .e => s.e.toNat
  | .h => s.h.toNat | .l => s.l.toNat | .sp => s.sp.toNat | .pc => s.pc.toNat | .ime => s.ime.toNat

/-- The register an r operand names; (HL) names none. -/
def regsOfR8 : R8 → List Reg
  | .b => [.b] | .c => [.c] | .d => [.d] | .e => [.e] | .h => [.h] | .l => [.l] | .atHL => [] | .a => [.a]

/-- The registers an rr operand names. -/
def regsOfRR : RR → List Reg
  | .bc => [.b, .c] | .de => [.d, .e] | .hl => [.h, .l] | .sp => [.sp]

/-- The registers a qq operand names. -/
def regsOfQQ : QQ → List Reg
  | .bc => [.b, .c] | .de => [.d, .e] | .hl => [.h, .l] | .af => [.a, .f]

/-- The registers the base update of an indirect A load writes (R119). -/
def regsOfInd : Ind → List Reg
  | .bc | .de => []
  | .hlInc | .hlDec => [.h, .l]

/-- The registers each form's rule writes, beside the step's own PC advance. -/
def writtenRegs : Form → List Reg
  | .nop | .halt | .stop _ | .di | .ei | .reserved _ => []
  | .ldRR p _ | .incRR p | .decRR p => regsOfRR p
  | .addHL _ => [.h, .l, .f]
  | .ldIndA p => regsOfInd p
  | .ldAInd p => .a :: regsOfInd p
  | .inc r | .dec r => .f :: regsOfR8 r
  | .ldImm r _ => regsOfR8 r
  | .ld dst _ => regsOfR8 dst
  | .accRot _ | .daa | .cpl => [.a, .f]
  | .scf | .ccf => [.f]
  | .alu o _ | .aluImm o _ => if o = .cp then [.f] else [.a, .f]
  | .ldFarSP _ | .ldhStore _ | .ldCStore | .ldFarStore _ => []
  | .ldhLoad _ | .ldCLoad | .ldFarLoad _ => [.a]
  | .jr _ | .jrCond _ _ | .jp _ | .jpCond _ _ | .jpHL => [.pc]
  | .call _ | .callCond _ _ | .rst _ | .ret | .retCond _ => [.pc, .sp]
  | .reti => [.pc, .sp, .ime]
  | .push _ => [.sp]
  | .pop q => .sp :: regsOfQQ q
  | .addSP _ => [.sp, .f]
  | .ldHLSP _ => [.h, .l, .f]
  | .ldSPHL => [.sp]
  | .cb _ r => .f :: regsOfR8 r
  | .bit _ _ => [.f]
  | .res _ r | .set _ r => regsOfR8 r
  | .prefixCB op =>
    match fieldX op with
    | 0 => .f :: regsOfR8 (r8OfCode (fieldZ op))
    | 1 => [.f]
    | 2 | 3 => regsOfR8 (r8OfCode (fieldZ op))

/-- The flags each form's rule writes (R23). -/
def writtenFlags : Form → List Flag
  | .inc _ | .dec _ | .bit _ _ => [.z, .n, .h]
  | .alu _ _ | .aluImm _ _ | .addSP _ | .ldHLSP _ | .accRot _ | .cb _ _ => [.z, .n, .h, .c]
  | .addHL _ | .scf | .ccf => [.n, .h, .c]
  | .daa => [.z, .h, .c]
  | .cpl => [.n, .h]
  | .pop q => if q = .af then [.z, .n, .h, .c] else []
  | .prefixCB op =>
    match fieldX op with
    | 0 => [.z, .n, .h, .c]
    | 1 => [.z, .n, .h]
    | 2 | 3 => []
  | .nop | .ldRR _ _ | .incRR _ | .decRR _ | .ldIndA _ | .ldAInd _ | .ldImm _ _ | .ldFarSP _ | .stop _ | .jr _
  | .jrCond _ _ | .ld _ _ | .halt | .retCond _ | .jpCond _ _ | .callCond _ _ | .push _ | .rst _ | .jp _ | .ret | .reti
  | .call _ | .ldhStore _ | .ldhLoad _ | .ldCStore | .ldCLoad | .ldFarStore _ | .ldFarLoad _ | .jpHL | .ldSPHL | .di | .ei
  | .reserved _ | .res _ _ | .set _ _ => []

/-- The address an r operand stores to. -/
def storeOfR8 (s : State) : R8 → List Word
  | .atHL => [s.hl]
  | .b | .c | .d | .e | .h | .l | .a => []

/-- The addresses each form stores a byte to (R39), computed as its meaning computes them. -/
def storedAddrs (s : State) : Form → List Word
  | .inc r | .dec r | .ldImm r _ | .ld r _ | .cb _ r | .res _ r | .set _ r => storeOfR8 s r
  | .ldIndA p => [indAddr s p]
  | .ldFarSP a => [a, a + 1]
  | .ldhStore n => [near n]
  | .ldCStore => [near s.c]
  | .ldFarStore a => [a]
  | .push _ | .call _ | .rst _ => [s.sp - 1, s.sp - 2]
  | .callCond k _ => if condHolds s k then [s.sp - 1, s.sp - 2] else []
  | .prefixCB op => if fieldX op = 1 then [] else storeOfR8 s (r8OfCode (fieldZ op))
  | .nop | .ldRR _ _ | .incRR _ | .decRR _ | .addHL _ | .ldAInd _ | .accRot _ | .daa | .cpl | .scf | .ccf | .stop _
  | .jr _ | .jrCond _ _ | .halt | .alu _ _ | .aluImm _ _ | .retCond _ | .jpCond _ _ | .pop _ | .jp _ | .ret | .reti
  | .ldhLoad _ | .ldCLoad | .ldFarLoad _ | .addSP _ | .ldHLSP _ | .jpHL | .ldSPHL | .di | .ei | .reserved _
  | .bit _ _ => []

/-- The bytes each form stores, one for each of its `storedAddrs`. -/
def storedValues (s : State) : Form → List Byte
  | .inc _ => [peek s s.hl + 1]
  | .dec _ => [peek s s.hl - 1]
  | .ldImm _ n => [n]
  | .ld _ src =>
    match src with
    | .b => [s.b] | .c => [s.c] | .d => [s.d] | .e => [s.e] | .h => [s.h] | .l => [s.l] | .atHL => [] | .a => [s.a]
  | .cb o _ => [(cbBits o (peek s s.hl) (s.flag .c)).1]
  | .res i _ => [clearBit (peek s s.hl) i.val]
  | .set i _ => [setBit (peek s s.hl) i.val]
  | .ldIndA _ | .ldhStore _ | .ldCStore | .ldFarStore _ => [s.a]
  | .ldFarSP _ => [BitVec.ofNat 8 s.sp.toNat, BitVec.ofNat 8 (s.sp.toNat / 256)]
  | .push q => [BitVec.ofNat 8 ((readQQ s q).toNat / 256), BitVec.ofNat 8 (readQQ s q).toNat]
  | .call _ | .callCond _ _ | .rst _ => [BitVec.ofNat 8 (s.pc.toNat / 256), BitVec.ofNat 8 s.pc.toNat]
  | .prefixCB op =>
    match fieldX op with
    | 0 => [(cbBits (cbOfCode (fieldY op)) (peek s s.hl) (s.flag .c)).1]
    | 1 => []
    | 2 => [clearBit (peek s s.hl) (fieldY op).val]
    | 3 => [setBit (peek s s.hl) (fieldY op).val]
  | .nop | .ldRR _ _ | .incRR _ | .decRR _ | .addHL _ | .ldAInd _ | .accRot _ | .daa | .cpl | .scf | .ccf | .stop _
  | .jr _ | .jrCond _ _ | .halt | .alu _ _ | .aluImm _ _ | .retCond _ | .jpCond _ _ | .pop _ | .jp _ | .ret | .reti
  | .ldhLoad _ | .ldCLoad | .ldFarLoad _ | .addSP _ | .ldHLSP _ | .jpHL | .ldSPHL | .di | .ei | .reserved _
  | .bit _ _ => []

/-- The last byte that a list of writes, in order, puts at an address. -/
def lastWritten (a : Nat) : List (Word × Byte) → Option Byte
  | [] => none
  | (b, v) :: rest =>
    match lastWritten a rest with
    | some w => some w
    | none => if b.toNat = a then some v else none

/-- The byte at an address after a form's stores: the last one stored there, else the byte before. -/
def byteAfter (s : State) (x : Form) (a : Word) : Byte :=
  (lastWritten a.toNat ((storedAddrs s x).zip (storedValues s x))).getD (peek s a)

/-- The byte INITIAL_MEMORY gives an address (R181): the one the launch lists, its first entry if it lists several, else
the fill byte (log entry 2). -/
def initialByte (p : Launch) (a : Nat) : Byte := (p.initial.lookup a).getD Memory.unlisted

end Sys2Proof.Machine

open Sys2Proof Sys2Proof.Machine

/-! ## Encoding and the step -/

/-- Decoding an encoded instruction gives it back, at every operand value (30_encoding.md R54 to R60). -/
def Obligations.EncodeThenDecodeIsIdentity : Prop :=
  ∀ (i : Instr) (rest : List Byte), i.wf = true → decode (encode i ++ rest) = .ok (i, rest)

/-- Encoding a decoded instruction gives its bytes back, and the decoder answers only well-formed instructions
(30_encoding.md R54 to R60, R64). -/
def Obligations.DecodeThenEncodeGivesTheBytesBack : Prop :=
  ∀ (bytes rest : List Byte) (i : Instr), decode bytes = .ok (i, rest) → i.wf = true ∧ encode i ++ rest = bytes

/-- Words the spec writes out, decoded: one or more of each family. -/
def Obligations.WrittenOutWordsDecode : Prop :=
  decode [0x00] = .ok (.nop, []) ∧ decode [0x3E, 0x42] = .ok (.ldA_d8 0x42, []) ∧
  decode [0x21, 0x34, 0x12] = .ok (.ldHL_d16 0x1234, []) ∧ decode [0x34] = .ok (.incAtHL, []) ∧
  decode [0x9C] = .ok (.sbcA_H, []) ∧ decode [0xCB, 0x37] = .ok (.swap_A, []) ∧
  decode [0xCB, 0xCB] = .ok (.set1_E, []) ∧ decode [0xE0, 0x40] = .ok (.ldhAtA8_A 0x40, []) ∧
  decode [0x18, 0xFE] = .ok (.jr_e8 0xFE, []) ∧ decode [0xCD, 0x00, 0x03] = .ok (.call_a16 0x0300, []) ∧
  decode [0xDD] = .ok (.reservedDDH, [])

/-- R54: the length follows from the first byte alone, by the operand kind; after 0xCB, the second byte is the CB opcode. -/
def Obligations.LengthFollowsFromFirstByte : Prop :=
  ∀ (op : Byte) (rest tail : List Byte) (i : Instr), decode (op :: rest) = .ok (i, tail) →
    (op :: rest).length = tail.length + instrLength op ∧ 1 ≤ instrLength op ∧ instrLength op ≤ 3 ∧
    (op = 0xCB → instrLength op = 2 ∧ ∃ b, rest = b :: tail ∧ i = instrOf (cbForm b)) ∧
    (op ≠ 0xCB → operandKind op = .none → instrLength op = 1) ∧
    (operandKind op ∈ [.imm8, .near8, .rel8] → instrLength op = 2) ∧
    (operandKind op ∈ [.imm16, .far16] → instrLength op = 3)

/-- R61, R62: how many entries of each sort the two tables have, and which opcodes are reserved. R61 is the spec's
inference from R59 and R60. -/
def Obligations.TablesHaveTheStatedEntries : Prop :=
  ((List.range 256).filter fun n => executable (primaryForm (BitVec.ofNat 8 n) 0 0)).length = 240 ∧
  ((List.range 256).filter fun n => executable (cbForm (BitVec.ofNat 8 n))).length = 256 ∧
  ∀ op : Byte, executable (primaryForm op 0 0) = false ↔
    op ∈ reservedOpcodes ∨ op ∈ unimplementedOpcodes ∨ op = 0xCB

/-- Log entry 4 (DEDUCED): the row PREFIX CB, which no decode answers and no step reaches, has a meaning of the model's
own, since R64 calls its opcode no instruction. That meaning runs the CB entry its second byte selects, as R164 says the
two bytes do, and completes when that entry's operand is readable. -/
def Obligations.PrefixRunsTheSelectedEntry : Prop :=
  ∀ (op : Byte) (s : State), exec (.prefixCB op) s = exec (decodeBytes 0xCB op 0) s ∧
    (fieldZ op ≠ 6 ∨ inMemory s s.hl → ∃ t, exec (.prefixCB op) s = .next t ∧ exec (decodeBytes 0xCB op 0) s = .next t)

/-- R67: a step whose bytes lie in memory and decode to an instruction is that instruction's `exec`, run with PC past
the whole instruction. The order and the wrap are the spec's decisions D4 and D20. -/
def Obligations.StepRunsTheDecodedInstruction : Prop :=
  ∀ (s : State) (i : Instr) (rest : List Byte), s.status = .running →
    decode [peek s s.pc, peek s (s.pc + 1), peek s (s.pc + 2)] = .ok (i, rest) →
    (∀ k < instrLength (peek s s.pc), inMemory s (s.pc + BitVec.ofNat 16 k)) →
    step s = exec i { s with pc := s.pc + BitVec.ofNat 16 (instrLength (peek s s.pc)) }

/-- R170, items 1 and 2: the first instruction byte outside memory, in address order, is the fault a step reports. The
order is the spec's decision D20. -/
def Obligations.FetchReportsTheFirstByteOutside : Prop :=
  ∀ s : State, s.status = .running →
    (¬ inMemory s s.pc → step s = .fault (.outOfRange s.pc)) ∧
    (inMemory s s.pc → 2 ≤ instrLength (peek s s.pc) → ¬ inMemory s (s.pc + 1) →
      step s = .fault (.outOfRange (s.pc + 1))) ∧
    (inMemory s s.pc → inMemory s (s.pc + 1) → instrLength (peek s s.pc) = 3 → ¬ inMemory s (s.pc + 2) →
      step s = .fault (.outOfRange (s.pc + 2)))

/-- R169, R185: what a call of `step()` returns and leaves. From Running it is the cost and the next state, or the
fault and the state before the step with the status Faulted; from Faulted it is refused with the recorded fault. That
a fault discards the step, and the refusal, are the spec's decision D19. -/
def Obligations.FaultsAreTerminalAndPrecise : Prop :=
  ∀ s : State,
    (s.status = .running →
      (∃ x t, fetch s = .ok x ∧ step s = .next t ∧ hostStep s = (.ok (cycles x.instr s), t)) ∨
      (∃ f, step s = .fault f ∧ hostStep s = (.fault f, { s with status := .faulted f }))) ∧
    (∀ f, s.status = .faulted f → step s = .refused (.alreadyFaulted f) ∧
      hostStep s = (.refused (.alreadyFaulted f), s))

/-! ## Memory, the stack, registers -/

/-- R56, R58: an r operand is a register, or the byte at HL. -/
def Obligations.R8OperandsNameTheirLocation : Prop :=
  ∀ (s : State) (v : Byte),
    (readR8 s .b = .ok s.b ∧ writeR8 s .b v = .ok { s with b := v }) ∧
    (readR8 s .c = .ok s.c ∧ writeR8 s .c v = .ok { s with c := v }) ∧
    (readR8 s .d = .ok s.d ∧ writeR8 s .d v = .ok { s with d := v }) ∧
    (readR8 s .e = .ok s.e ∧ writeR8 s .e v = .ok { s with e := v }) ∧
    (readR8 s .h = .ok s.h ∧ writeR8 s .h v = .ok { s with h := v }) ∧
    (readR8 s .l = .ok s.l ∧ writeR8 s .l v = .ok { s with l := v }) ∧
    (readR8 s .a = .ok s.a ∧ writeR8 s .a v = .ok { s with a := v }) ∧
    (inMemory s s.hl → readR8 s .atHL = .ok (peek s s.hl) ∧
      writeR8 s .atHL v = .ok { s with mem := Memory.write s.mem s.hl.toNat v }) ∧
    (¬ inMemory s s.hl → readR8 s .atHL = .error (.outOfRange s.hl) ∧
      writeR8 s .atHL v = .error (.outOfRange s.hl)) ∧
    ∀ r, r8OfCode (Fin.ofNat 8 (codeR8 r)) = r

/-- R34, R35, R36: a byte access is checked; a write sets the addressed byte and no other; with MEM_SIZE = 0x10000 no
address fails the check. -/
def Obligations.ByteAccessesAreChecked : Prop :=
  ∀ (s : State) (a : Word) (v : Byte), Memory.wf s.mem = true →
    (inMemory s a → readByte s a = .ok (peek s a) ∧
      ∃ m, writeByte s a v = .ok { s with mem := m } ∧ Memory.read m a.toNat = v ∧
        ∀ b, b ≠ a.toNat → Memory.read m b = Memory.read s.mem b) ∧
    (¬ inMemory s a → readByte s a = .error (.outOfRange a) ∧ writeByte s a v = .error (.outOfRange a)) ∧
    (s.cfg.memSize = 0x10000 → inMemory s a)

/-- R37, R38: a 16-bit access is two byte accesses, the low byte at the address first, the high byte at the next
address modulo 2^16. The wrap and the order are the spec's decisions D4 and D29. -/
def Obligations.WordAccessesAreTwoByteAccesses : Prop :=
  ∀ (s : State) (a v : Word),
    (inMemory s a → inMemory s (a + 1) →
      readWord s a = .ok (BitVec.ofNat 16 (256 * (peek s (a + 1)).toNat + (peek s a).toNat)) ∧
      (let m := Memory.write s.mem a.toNat (BitVec.ofNat 8 v.toNat)
       writeWord s a v = .ok { s with mem := Memory.write m (a + 1).toNat (BitVec.ofNat 8 (v.toNat / 256)) })) ∧
    (¬ inMemory s a → readWord s a = .error (.outOfRange a) ∧ writeWord s a v = .error (.outOfRange a)) ∧
    (inMemory s a → ¬ inMemory s (a + 1) →
      readWord s a = .error (.outOfRange (a + 1)) ∧ writeWord s a v = .error (.outOfRange (a + 1)))

/-- R46: a push followed by a pop returns the value and restores SP. The premise on memory is an invariant
(`StepKeepsTheInvariant`). R46 is the spec's inference from R44 and R45. -/
def Obligations.PushThenPopRestores : Prop :=
  ∀ (s t : State) (x : Word), Memory.wf s.mem = true → push16 s x = .ok t → pop16 t = .ok (x, { t with sp := s.sp })

/-- R16, R17: a pair and its halves are one storage; a write of AF discards the low four bits. R17 is the spec's
inference from R16 and R21. -/
def Obligations.PairsAliasTheirHalves : Prop :=
  ∀ (s : State) (v : Word) (x : Byte),
    (s.af.toNat = 256 * s.a.toNat + s.f.toNat ∧ s.bc.toNat = 256 * s.b.toNat + s.c.toNat ∧
      s.de.toNat = 256 * s.d.toNat + s.e.toNat ∧ s.hl.toNat = 256 * s.h.toNat + s.l.toNat) ∧
    (s.setBC v = { s with b := BitVec.ofNat 8 (v.toNat / 256), c := BitVec.ofNat 8 v.toNat } ∧
      s.setDE v = { s with d := BitVec.ofNat 8 (v.toNat / 256), e := BitVec.ofNat 8 v.toNat } ∧
      s.setHL v = { s with h := BitVec.ofNat 8 (v.toNat / 256), l := BitVec.ofNat 8 v.toNat }) ∧
    s.setAF v = { s with a := BitVec.ofNat 8 (v.toNat / 256), f := BitVec.ofNat 8 (v.toNat % 256 / 16 * 16) } ∧
    (s.setBC v).bc = v ∧ (s.setDE v).de = v ∧ (s.setHL v).hl = v ∧
    ({ s with b := x } : State).bc.toNat = 256 * x.toNat + s.c.toNat ∧
    ({ s with l := x } : State).hl.toNat = 256 * s.h.toNat + x.toNat

/-- R10 to R14: the half-carry, carry and borrow helpers, as comparisons of numbers. R11 and R12 are marked as
inferences by the spec; R13 and R14 rest on its decisions D8 and D9. -/
def Obligations.CarryHelpersMeetTheirBoundary : Prop :=
  ∀ (a b : Byte) (x y : Word) (c : Bool),
    halfCarryAdd a b = decide (a.toNat % 16 + b.toNat % 16 ≥ 16) ∧
    halfCarrySub a b = decide (a.toNat % 16 < b.toNat % 16) ∧
    halfCarryWideAdd x y = decide (x.toNat % 4096 + y.toNat % 4096 ≥ 4096) ∧
    halfCarryWideSub x y = decide (x.toNat % 4096 < y.toNat % 4096) ∧
    hcAdc a b c = decide (a.toNat % 16 + b.toNat % 16 + c.toNat ≥ 16) ∧
    hbSbc a b c = decide (a.toNat % 16 < b.toNat % 16 + c.toNat) ∧
    hcAdc a b false = halfCarryAdd a b ∧ hbSbc a b false = halfCarrySub a b ∧
    carry8 a b c = decide (a.toNat + b.toNat + c.toNat ≥ 256) ∧
    borrow8 a b c = decide (a.toNat < b.toNat + c.toNat) ∧
    carry16 x y = decide (x.toNat + y.toNat ≥ 65536)

/-! ## Increment and decrement (41_inc_dec.md) -/

/-- R69, R70: INC r and INC (HL). -/
def Obligations.IncrementWritesZNHAndKeepsC : Prop :=
  ∀ r, encode (incInstr r) = [BitVec.ofNat 8 (8 * codeR8 r + 4)] ∧
  ∀ s, (∀ v u, readR8 s r = .ok v → writeR8 s r (BitVec.ofNat 8 (v.toNat + 1)) = .ok u →
      exec (incInstr r) s =
        .next { u with f := flagsByte (decide (v.toNat = 0xFF)) false (decide (v.toNat % 16 = 0x0F)) (s.flag .c) }) ∧
    (r = .atHL → ¬ inMemory s s.hl → exec (incInstr r) s = .fault (.outOfRange s.hl))

/-- R71, R72: DEC r and DEC (HL). -/
def Obligations.DecrementWritesZNHAndKeepsC : Prop :=
  ∀ r, encode (decInstr r) = [BitVec.ofNat 8 (8 * codeR8 r + 5)] ∧
  ∀ s, (∀ v u, readR8 s r = .ok v → writeR8 s r (BitVec.ofNat 8 (v.toNat + 255)) = .ok u →
      exec (decInstr r) s =
        .next { u with f := flagsByte (decide (v.toNat = 1)) true (decide (v.toNat % 16 = 0)) (s.flag .c) }) ∧
    (r = .atHL → ¬ inMemory s s.hl → exec (decInstr r) s = .fault (.outOfRange s.hl))

/-- R74, R75: INC rr and DEC rr wrap and write no flag. -/
def Obligations.PairIncrementAndDecrementKeepFlags : Prop :=
  ∀ p, encode (incRRInstr p) = [BitVec.ofNat 8 (16 * codeRR p + 0x03)] ∧
    encode (decRRInstr p) = [BitVec.ofNat 8 (16 * codeRR p + 0x0B)] ∧
  ∀ s, (exec (incRRInstr p) s = .next (writeRR s p (BitVec.ofNat 16 ((readRR s p).toNat + 1)))) ∧
    (exec (decRRInstr p) s = .next (writeRR s p (BitVec.ofNat 16 ((readRR s p).toNat + 65535)))) ∧
    ∀ v, readRR (writeRR s p v) p = v ∧ (writeRR s p v).f = s.f

/-- R73: INC then DEC, or DEC then INC, leaves the location as it was, and Z says whether each result is zero. R73 is
the spec's inference from R69 to R72. The premise on memory is an invariant (`StepKeepsTheInvariant`). -/
def Obligations.IncrementAndDecrementUndoEachOther : Prop :=
  ∀ (s : State) (r : R8) (v : Byte), Memory.wf s.mem = true → readR8 s r = .ok v →
    (∃ t u w, exec (incInstr r) s = .next t ∧ exec (decInstr r) t = .next u ∧ readR8 t r = .ok w ∧
      readR8 u r = .ok v ∧ t.flag .z = decide (w = 0) ∧ u.flag .z = decide (v = 0)) ∧
    (∃ t u w, exec (decInstr r) s = .next t ∧ exec (incInstr r) t = .next u ∧ readR8 t r = .ok w ∧
      readR8 u r = .ok v ∧ t.flag .z = decide (w = 0) ∧ u.flag .z = decide (v = 0))

/-! ## The ALU (42_alu.md) -/

/-- R77, R78, R79: ADD and ADC. H and C follow the spec's decisions D7 to D9. -/
def Obligations.AddAndAdcWriteSumAndFlags : Prop :=
  AluForms .add (fun s v =>
    { s with a := BitVec.ofNat 8 (s.a.toNat + v.toNat)
             f := flagsByte (decide ((s.a.toNat + v.toNat) % 256 = 0)) false
               (decide (s.a.toNat % 16 + v.toNat % 16 ≥ 16)) (decide (s.a.toNat + v.toNat ≥ 256)) }) ∧
  AluForms .adc (fun s v =>
    { s with a := BitVec.ofNat 8 (s.a.toNat + v.toNat + (s.flag .c).toNat)
             f := flagsByte (decide ((s.a.toNat + v.toNat + (s.flag .c).toNat) % 256 = 0)) false
               (decide (s.a.toNat % 16 + v.toNat % 16 + (s.flag .c).toNat ≥ 16))
               (decide (s.a.toNat + v.toNat + (s.flag .c).toNat ≥ 256)) })

/-- R77, R80, R81, R85: SUB, SBC and CP; CP writes the flags of SUB and leaves A. H and C follow the spec's decisions
D7 to D9. -/
def Obligations.SubSbcAndCpWriteDifferenceAndFlags : Prop :=
  AluForms .sub (fun s v =>
    { s with a := BitVec.ofInt 8 ((s.a.toNat : Int) - v.toNat)
             f := flagsByte (decide (s.a = v)) true (decide (s.a.toNat % 16 < v.toNat % 16))
               (decide (s.a.toNat < v.toNat)) }) ∧
  AluForms .sbc (fun s v =>
    { s with a := BitVec.ofInt 8 ((s.a.toNat : Int) - v.toNat - (s.flag .c).toNat)
             f := flagsByte (decide (((s.a.toNat : Int) - v.toNat - (s.flag .c).toNat) % 256 = 0)) true
               (decide (s.a.toNat % 16 < v.toNat % 16 + (s.flag .c).toNat))
               (decide (s.a.toNat < v.toNat + (s.flag .c).toNat)) }) ∧
  AluForms .cp (fun s v =>
    { s with f := flagsByte (decide (s.a = v)) true (decide (s.a.toNat % 16 < v.toNat % 16))
               (decide (s.a.toNat < v.toNat)) })

/-- R77, R82, R83, R84: AND sets H and clears C; XOR and OR clear both; Z from the result. -/
def Obligations.LogicOperationsFixHAndC : Prop :=
  AluForms .and (fun s v => { s with a := s.a &&& v, f := flagsByte (decide (s.a &&& v = 0)) false true false }) ∧
  AluForms .xor (fun s v => { s with a := s.a ^^^ v, f := flagsByte (decide (s.a = v)) false false false }) ∧
  AluForms .or (fun s v =>
    { s with a := s.a ||| v, f := flagsByte (decide (s.a = 0 ∧ v = 0)) false false false })

/-- R86: ADD HL,rr writes N, H and C and keeps Z. H and C follow the spec's decisions D7 and D8. -/
def Obligations.AddHLWritesNHCAndKeepsZ : Prop :=
  ∀ p, encode (addHLInstr p) = [BitVec.ofNat 8 (16 * codeRR p + 0x09)] ∧
  ∀ s, exec (addHLInstr p) s = .next
    { s with h := BitVec.ofNat 8 ((s.hl.toNat + (readRR s p).toNat) / 256)
             l := BitVec.ofNat 8 (s.hl.toNat + (readRR s p).toNat)
             f := flagsByte (s.flag .z) false (decide (s.hl.toNat % 4096 + (readRR s p).toNat % 4096 ≥ 4096))
               (decide (s.hl.toNat + (readRR s p).toNat ≥ 65536)) }

/-- R87, R140: ADD SP,e8 and LD HL,SP+e8 add the signed offset; H and C come from the unsigned low bytes. Both rules
are the spec's decision D13. -/
def Obligations.SignedOffsetToSP : Prop :=
  ∀ (s : State) (e : Byte),
    encode (.addSP_e8 e) = [0xE8, e] ∧ encode (.ldHL_SPe8 e) = [0xF8, e] ∧
    (let r : Word := BitVec.ofInt 16 ((s.sp.toNat : Int) + e.toInt)
     let f := flagsByte false false (decide (s.sp.toNat % 16 + e.toNat % 16 ≥ 16))
      (decide (s.sp.toNat % 256 + e.toNat ≥ 256))
     exec (.addSP_e8 e) s = .next { s with sp := r, f := f } ∧
     exec (.ldHL_SPe8 e) s =
      .next { s with h := BitVec.ofNat 8 (r.toNat / 256), l := BitVec.ofNat 8 r.toNat, f := f })

/-- R88: DAA under both algorithms; N is kept. Which algorithm runs is a parameter of the machine, the spec's decision
D17. -/
def Obligations.DecimalAdjustFollowsItsAlgorithm : Prop :=
  encode .daa = [0x27] ∧ ∀ s : State,
    (s.cfg.daa = .document →
      (let r := daaDocumentNat s.a.toNat (s.flag .h) (s.flag .c)
       exec .daa s = .next { s with a := BitVec.ofNat 8 r.1
                                    f := flagsByte (decide (r.1 = 0)) (s.flag .n) false r.2 })) ∧
    (s.cfg.daa = .sm83 →
      (let r := daaSm83Nat s.a.toNat (s.flag .n) (s.flag .h) (s.flag .c)
       exec .daa s = .next { s with a := BitVec.ofNat 8 r.1
                                    f := flagsByte (decide (r.1 = 0)) (s.flag .n) false r.2 }))

/-- R89, R90, R91: CPL, SCF and CCF. The three rules are the spec's decision D12. -/
def Obligations.ComplementAndCarryInstructions : Prop :=
  encode .cpl = [0x2F] ∧ encode .scf = [0x37] ∧ encode .ccf = [0x3F] ∧ ∀ s : State,
    exec .cpl s =
      .next { s with a := BitVec.ofNat 8 (255 - s.a.toNat), f := flagsByte (s.flag .z) true true (s.flag .c) } ∧
    exec .scf s = .next { s with f := flagsByte (s.flag .z) false false true } ∧
    exec .ccf s = .next { s with f := flagsByte (s.flag .z) false false (!s.flag .c) }

/-! ## Rotates, shifts, single bits (43_rotate_shift_bit.md) -/

/-- R93 to R96: the accumulator rotates clear Z, N and H; C is the bit moved out. N = 0 and H = 0 are the spec's
decision D10. -/
def Obligations.AccumulatorRotatesClearZ : Prop :=
  encode .rlca = [0x07] ∧ encode .rla = [0x17] ∧ encode .rrca = [0x0F] ∧ encode .rra = [0x1F] ∧ ∀ s : State,
    exec .rlca s = .next { s with a := BitVec.ofNat 8 (2 * s.a.toNat % 256 + s.a.toNat / 128)
                                  f := flagsByte false false false (decide (s.a.toNat ≥ 128)) } ∧
    exec .rla s = .next { s with a := BitVec.ofNat 8 (2 * s.a.toNat % 256 + (s.flag .c).toNat)
                                 f := flagsByte false false false (decide (s.a.toNat ≥ 128)) } ∧
    exec .rrca s = .next { s with a := BitVec.ofNat 8 (s.a.toNat / 2 + 128 * (s.a.toNat % 2))
                                  f := flagsByte false false false (decide (s.a.toNat % 2 = 1)) } ∧
    exec .rra s = .next { s with a := BitVec.ofNat 8 (s.a.toNat / 2 + 128 * (s.flag .c).toNat)
                                 f := flagsByte false false false (decide (s.a.toNat % 2 = 1)) }

/-- R97, R98, R101, R102, R105, R106: RLC, RL and SLA on a register and on (HL). N = 0 and H = 0 are the spec's
decision D10. -/
def Obligations.LeftRotatesAndShifts : Prop :=
  CbForms .rlc (fun v _ => 2 * v % 256 + v / 128) (fun v => decide (v ≥ 128)) ∧
  CbForms .rl (fun v c => 2 * v % 256 + c) (fun v => decide (v ≥ 128)) ∧
  CbForms .sla (fun v _ => 2 * v % 256) (fun v => decide (v ≥ 128))

/-- R99, R100, R103, R104, R107 to R110: RRC, RR, SRA and SRL on a register and on (HL). N = 0 and H = 0 are the
spec's decision D10. -/
def Obligations.RightRotatesAndShifts : Prop :=
  CbForms .rrc (fun v _ => v / 2 + 128 * (v % 2)) (fun v => decide (v % 2 = 1)) ∧
  CbForms .rr (fun v c => v / 2 + 128 * c) (fun v => decide (v % 2 = 1)) ∧
  CbForms .sra (fun v _ => v / 2 + 128 * (v / 128)) (fun v => decide (v % 2 = 1)) ∧
  CbForms .srl (fun v _ => v / 2) (fun v => decide (v % 2 = 1))

/-- R111, R112: SWAP exchanges the nibbles and clears N, H and C. -/
def Obligations.SwapExchangesNibbles : Prop :=
  CbForms .swap (fun v _ => 16 * (v % 16) + v / 16) (fun _ => false)

/-- R113, R114: BIT writes Z, N and H, keeps C and writes no operand. -/
def Obligations.BitTestsWithoutWriting : Prop :=
  ∀ (i : Fin 8) (r : R8), encode (bitInstr i r) = [0xCB, BitVec.ofNat 8 (0x40 + 8 * i.val + codeR8 r)] ∧
  ∀ s, (∀ v, readR8 s r = .ok v →
      exec (bitInstr i r) s = .next { s with f := flagsByte (!v.toNat.testBit i.val) false true (s.flag .c) }) ∧
    (r = .atHL → ¬ inMemory s s.hl → exec (bitInstr i r) s = .fault (.outOfRange s.hl))

/-- R115 to R118: RES and SET write one bit of the operand and no flag. -/
def Obligations.ResAndSetWriteOneBit : Prop :=
  ∀ (i : Fin 8) (r : R8),
    encode (resInstr i r) = [0xCB, BitVec.ofNat 8 (0x80 + 8 * i.val + codeR8 r)] ∧
    encode (setInstr i r) = [0xCB, BitVec.ofNat 8 (0xC0 + 8 * i.val + codeR8 r)] ∧
  ∀ s, (∀ v w u, readR8 s r = .ok v → (∀ j < 8, w.getLsbD j = if j = i.val then false else v.getLsbD j) →
      writeR8 s r w = .ok u → exec (resInstr i r) s = .next u) ∧
    (∀ v w u, readR8 s r = .ok v → (∀ j < 8, w.getLsbD j = if j = i.val then true else v.getLsbD j) →
      writeR8 s r w = .ok u → exec (setInstr i r) s = .next u) ∧
    (r = .atHL → ¬ inMemory s s.hl →
      exec (resInstr i r) s = .fault (.outOfRange s.hl) ∧ exec (setInstr i r) s = .fault (.outOfRange s.hl))

/-! ## Loads and stores (44_loads.md) -/

/-- R120 to R124: the 8-bit loads between registers, (HL) and an immediate. -/
def Obligations.EightBitLoadsCopyTheirSource : Prop :=
  (∀ dst src, ¬ (dst = .atHL ∧ src = .atHL) →
    encode (ldInstr dst src) = [BitVec.ofNat 8 (0x40 + 8 * codeR8 dst + codeR8 src)] ∧
    ∀ s, (∀ v u, readR8 s src = .ok v → writeR8 s dst v = .ok u → exec (ldInstr dst src) s = .next u) ∧
      (dst = .atHL ∨ src = .atHL → ¬ inMemory s s.hl → exec (ldInstr dst src) s = .fault (.outOfRange s.hl))) ∧
  (∀ r n, encode (ldImmInstr r n) = [BitVec.ofNat 8 (8 * codeR8 r + 6), n] ∧
    ∀ s, (∀ u, writeR8 s r n = .ok u → exec (ldImmInstr r n) s = .next u) ∧
      (r = .atHL → ¬ inMemory s s.hl → exec (ldImmInstr r n) s = .fault (.outOfRange s.hl)))

/-- R125 to R130: the indirect A loads access the old address, then update HL. -/
def Obligations.IndirectLoadsUpdateHLAfterTheAccess : Prop :=
  ∀ p, encode (ldIndAInstr p) = [BitVec.ofNat 8 (16 * codeInd p + 0x02)] ∧
    encode (ldAIndInstr p) = [BitVec.ofNat 8 (16 * codeInd p + 0x0A)] ∧
  ∀ s, (let a : Word := match p with | .bc => s.bc | .de => s.de | .hlInc => s.hl | .hlDec => s.hl
    let hl' : Nat := match p with
      | .bc => s.hl.toNat
      | .de => s.hl.toNat
      | .hlInc => s.hl.toNat + 1
      | .hlDec => s.hl.toNat + 65535
    (inMemory s a →
      exec (ldIndAInstr p) s = .next { s with mem := Memory.write s.mem a.toNat s.a
                                              h := BitVec.ofNat 8 (hl' / 256), l := BitVec.ofNat 8 hl' } ∧
      exec (ldAIndInstr p) s = .next { s with a := peek s a
                                              h := BitVec.ofNat 8 (hl' / 256), l := BitVec.ofNat 8 hl' }) ∧
    (¬ inMemory s a →
      exec (ldIndAInstr p) s = .fault (.outOfRange a) ∧ exec (ldAIndInstr p) s = .fault (.outOfRange a)))

/-- R131 to R136: A stored and loaded at a near address, at 0xFF00 + C and at a far address. The forms on C are the
spec's decision D31. -/
def Obligations.NearAndFarAccessesMoveA : Prop :=
  ∀ (s : State) (n : Byte) (a : Word),
    encode (.ldhAtA8_A n) = [0xE0, n] ∧ encode (.ldhA_atA8 n) = [0xF0, n] ∧ encode .ldAtC_A = [0xE2] ∧
    encode .ldA_atC = [0xF2] ∧
    encode (.ldAtA16_A a) = [0xEA, BitVec.ofNat 8 a.toNat, BitVec.ofNat 8 (a.toNat / 256)] ∧
    encode (.ldA_atA16 a) = [0xFA, BitVec.ofNat 8 a.toNat, BitVec.ofNat 8 (a.toNat / 256)] ∧
    StoresByte (.ldhAtA8_A n) s (BitVec.ofNat 16 (0xFF00 + n.toNat)) s.a ∧
    LoadsA (.ldhA_atA8 n) s (BitVec.ofNat 16 (0xFF00 + n.toNat)) ∧
    StoresByte .ldAtC_A s (BitVec.ofNat 16 (0xFF00 + s.c.toNat)) s.a ∧
    LoadsA .ldA_atC s (BitVec.ofNat 16 (0xFF00 + s.c.toNat)) ∧
    StoresByte (.ldAtA16_A a) s a s.a ∧ LoadsA (.ldA_atA16 a) s a

/-- R137, R138, R139: LD rr,d16, LD (a16),SP and LD SP,HL. LD (a16),SP follows the spec's decision D29. -/
def Obligations.SixteenBitLoads : Prop :=
  ∀ (s : State) (n a : Word),
    (∀ p, encode (ldRRInstr p n) =
        [BitVec.ofNat 8 (16 * codeRR p + 1), BitVec.ofNat 8 n.toNat, BitVec.ofNat 8 (n.toNat / 256)] ∧
      exec (ldRRInstr p n) s = .next (writeRR s p n)) ∧
    encode (.ldAtA16_SP a) = [0x08, BitVec.ofNat 8 a.toNat, BitVec.ofNat 8 (a.toNat / 256)] ∧
    (inMemory s a → inMemory s (a + 1) →
      (let m := Memory.write s.mem a.toNat (BitVec.ofNat 8 s.sp.toNat)
       exec (.ldAtA16_SP a) s =
        .next { s with mem := Memory.write m (a + 1).toNat (BitVec.ofNat 8 (s.sp.toNat / 256)) })) ∧
    (¬ inMemory s a → exec (.ldAtA16_SP a) s = .fault (.outOfRange a)) ∧
    (inMemory s a → ¬ inMemory s (a + 1) → exec (.ldAtA16_SP a) s = .fault (.outOfRange (a + 1))) ∧
    encode .ldSP_HL = [0xF9] ∧ exec .ldSP_HL s = .next { s with sp := s.hl }

/-- R141: PUSH qq. The wrap of SP is the spec's decision D4. -/
def Obligations.PushStoresHighThenLow : Prop :=
  ∀ q, encode (pushInstr q) = [BitVec.ofNat 8 (0xC5 + 16 * codeQQ q)] ∧
    ∀ s, PushesThen (pushInstr q) s (pushed s (readQQ s q))

/-- R142: POP qq; POP AF masks the low four bits of F. The mask is the spec's decision D24. -/
def Obligations.PopLoadsLowThenHigh : Prop :=
  ∀ q, encode (popInstr q) = [BitVec.ofNat 8 (0xC1 + 16 * codeQQ q)] ∧
    ∀ s, PopsThen (popInstr q) s
      (match q with
        | .bc => { s with sp := s.sp + 2, b := peek s (s.sp + 1), c := peek s s.sp }
        | .de => { s with sp := s.sp + 2, d := peek s (s.sp + 1), e := peek s s.sp }
        | .hl => { s with sp := s.sp + 2, h := peek s (s.sp + 1), l := peek s s.sp }
        | .af => { s with sp := s.sp + 2, a := peek s (s.sp + 1), f := peek s s.sp &&& 0xF0 })

/-! ## Control transfer (45_control.md) -/

/-- R143, R146 to R150: the jumps; a relative one adds the signed offset to PC_next modulo 2^16. JP HL reads no memory
by the spec's decision D30. -/
def Obligations.JumpsSetPC : Prop :=
  ∀ (s : State) (a : Word) (e : Byte),
    (let rel : Word := BitVec.ofInt 16 ((s.pc.toNat : Int) + e.toInt)
     encode (.jp_a16 a) = [0xC3, BitVec.ofNat 8 a.toNat, BitVec.ofNat 8 (a.toNat / 256)] ∧ encode .jpHL = [0xE9] ∧
     encode (.jr_e8 e) = [0x18, e] ∧
     exec (.jp_a16 a) s = .next { s with pc := a } ∧ exec .jpHL s = .next { s with pc := s.hl } ∧
     exec (.jr_e8 e) s = .next { s with pc := rel } ∧
     ∀ k, encode (jpCondInstr k a) =
          [BitVec.ofNat 8 (0xC2 + 8 * codeCond k), BitVec.ofNat 8 a.toNat, BitVec.ofNat 8 (a.toNat / 256)] ∧
       encode (jrCondInstr k e) = [BitVec.ofNat 8 (0x20 + 8 * codeCond k), e] ∧
       (condHolds s k = match k with
         | .nz => !s.f.getLsbD 7 | .z => s.f.getLsbD 7 | .nc => !s.f.getLsbD 4 | .c => s.f.getLsbD 4) ∧
       exec (jpCondInstr k a) s = .next (if condHolds s k then { s with pc := a } else s) ∧
       exec (jrCondInstr k e) s = .next (if condHolds s k then { s with pc := rel } else s))

/-- R151, R152, R157: CALL, CALL cc and RST push PC_next and jump. The restart vectors are the spec's decision D2. -/
def Obligations.CallsPushTheReturnAddress : Prop :=
  ∀ (s : State) (a : Word) (k : Cond) (t : Fin 8),
    encode (.call_a16 a) = [0xCD, BitVec.ofNat 8 a.toNat, BitVec.ofNat 8 (a.toNat / 256)] ∧
    encode (callCondInstr k a) =
      [BitVec.ofNat 8 (0xC4 + 8 * codeCond k), BitVec.ofNat 8 a.toNat, BitVec.ofNat 8 (a.toNat / 256)] ∧
    encode (rstInstr t) = [BitVec.ofNat 8 (0xC7 + 8 * t.val)] ∧
    PushesThen (.call_a16 a) s { pushed s s.pc with pc := a } ∧
    (condHolds s k = true → PushesThen (callCondInstr k a) s { pushed s s.pc with pc := a }) ∧
    (condHolds s k = false → exec (callCondInstr k a) s = .next s) ∧
    PushesThen (rstInstr t) s { pushed s s.pc with pc := BitVec.ofNat 16 (8 * t.val) }

/-- R153, R155, R156: RET, RET cc and RETI pop PC; RETI also writes 1 to IME. IME is the spec's decision D16. -/
def Obligations.ReturnsPopPC : Prop :=
  ∀ (s : State) (k : Cond),
    encode .ret = [0xC9] ∧ encode .reti = [0xD9] ∧ encode (retCondInstr k) = [BitVec.ofNat 8 (0xC0 + 8 * codeCond k)] ∧
    PopsThen .ret s { s with sp := s.sp + 2, pc := popped s } ∧
    PopsThen .reti s { s with sp := s.sp + 2, pc := popped s, ime := true } ∧
    (condHolds s k = true → PopsThen (retCondInstr k) s { s with sp := s.sp + 2, pc := popped s }) ∧
    (condHolds s k = false → exec (retCondInstr k) s = .next s)

/-- R144: a step of a conditional JP, JR, CALL or RET whose condition is false only advances PC past it. -/
def Obligations.FalseConditionOnlyAdvancesPC : Prop :=
  ∀ (s : State) (x : Fetched) (k : Cond) (e : Byte) (a : Word), s.status = .running → fetch s = .ok x →
    x.instr ∈ [jpCondInstr k a, jrCondInstr k e, callCondInstr k a, retCondInstr k] → condHolds s k = false →
    step s = .next { s with pc := x.next }

/-- R154: CALL a16 at address P, then RET with the stack as CALL left it, gives PC = P + 3 and the old SP. The premise
on memory is an invariant (`StepKeepsTheInvariant`). R154 is the spec's inference from R151, R153 and R46. -/
def Obligations.CallThenReturnComesBack : Prop :=
  ∀ (s t u : State) (x : Fetched) (a : Word), Memory.wf s.mem = true → fetch s = .ok x → x.instr = .call_a16 a →
    step s = .next t → u.mem = t.mem → u.sp = t.sp → u.cfg = t.cfg →
    exec .ret u = .next { u with pc := s.pc + 3, sp := s.sp }

/-! ## Miscellaneous (46_misc.md) -/

/-- R158: NOP's step advances PC by 1 and nothing else changes. The encoding is the spec's decision D2. -/
def Obligations.NopOnlyAdvancesPC : Prop :=
  encode .nop = [0x00] ∧ ∀ s : State, exec .nop s = .next s ∧
    (s.status = .running → inMemory s s.pc → peek s s.pc = 0x00 → step s = .next { s with pc := s.pc + 1 })

/-- R159 to R162: HALT, STOP, DI and EI raise Unimplemented with their opcode; STOP's operand byte is fetched first.
The fault kind is the spec's decision D14, STOP's length its decision D21. -/
def Obligations.UnimplementedInstructionsFault : Prop :=
  encode .halt = [0x76] ∧ (∀ n, encode (.stop n) = [0x10, n]) ∧ encode .di = [0xF3] ∧ encode .ei = [0xFB] ∧
  ∀ s : State,
    exec .halt s = .fault (.unimplemented 0x76) ∧ (∀ n, exec (.stop n) s = .fault (.unimplemented 0x10)) ∧
    exec .di s = .fault (.unimplemented 0xF3) ∧ exec .ei s = .fault (.unimplemented 0xFB) ∧
    (s.status = .running → inMemory s s.pc →
      (peek s s.pc = 0x76 → step s = .fault (.unimplemented 0x76)) ∧
      (peek s s.pc = 0x10 → inMemory s (s.pc + 1) → step s = .fault (.unimplemented 0x10)) ∧
      (peek s s.pc = 0x10 → ¬ inMemory s (s.pc + 1) → step s = .fault (.outOfRange (s.pc + 1))) ∧
      (peek s s.pc = 0xF3 → step s = .fault (.unimplemented 0xF3)) ∧
      (peek s s.pc = 0xFB → step s = .fault (.unimplemented 0xFB)))

/-- R163: a reserved opcode raises Reserved with the opcode, from its own byte alone. The fault kind is the spec's
decision D15. -/
def Obligations.ReservedOpcodesFault : Prop :=
  (∀ (x : Hole) (s : State), ∃ op ∈ reservedOpcodes, encode (reservedInstr x) = [op] ∧
    exec (reservedInstr x) s = .fault (.reserved op)) ∧
  ∀ (s : State) (op : Byte), op ∈ reservedOpcodes → s.status = .running → inMemory s s.pc → peek s s.pc = op →
    step s = .fault (.reserved op)

/-! ## The whole machine -/

/-- Every step keeps the invariant: F[3:0] = 0 (R21), memory canonical and inside MEM_SIZE (R27), the parameters (R5).
The canonical form is the model's own way to hold memory (log entry 2). -/
def Obligations.StepKeepsTheInvariant : Prop :=
  ∀ s t : State, s.Inv → step s = .next t → t.Inv

/-- The reset state meets the invariant and holds the reset values the spec gives: IME = 0 by its decision D16 and status
Running by its decision D19 (R30). That MEM_SIZE = 0x10000 and DAA_ALGORITHM = document there is the model's choice (log
entry 3, DESIGN CHOICE): both are open parameters, and the model takes the defaults of R5 (decisions D3, D17). No register
of log entry 1 is stated. -/
def Obligations.ResetMeetsTheInvariant : Prop :=
  State.reset.Inv ∧ State.reset.ime = false ∧ State.reset.status = .running ∧ State.reset.cfg.memSize = 0x10000 ∧
    State.reset.cfg.daa = .document

/-- R30, R181, R186: a launch whose loader writes lie in memory gives every launch value and meets the invariant: an
address below MEM_SIZE holds the last byte the loader wrote there, else the byte INITIAL_MEMORY gives it. One whose first
write outside memory is at an address faults with that address. The launch parameters are the spec's decisions D6 and
D28, IME = 0 its D16, the status its D19. How a launch lists INITIAL_MEMORY and its fill byte is the model's choice (log
entry 2, DESIGN CHOICE), and so is holding the parameters in State (log entry 3, DESIGN CHOICE). -/
def Obligations.LaunchGivesTheLaunchValues : Prop :=
  ∀ p : Launch, p.cfg.wf →
    ((∀ x ∈ p.program, x.1.toNat < p.cfg.memSize) → ∃ s, launch p = .ok s ∧ s.Inv ∧
      s.a = p.a ∧ s.b = p.b ∧ s.c = p.c ∧ s.d = p.d ∧ s.e = p.e ∧ s.h = p.h ∧ s.l = p.l ∧ s.f = p.f &&& 0xF0 ∧
      s.sp = p.sp ∧ s.pc = p.pc ∧ s.ime = false ∧ s.status = .running ∧ s.cfg = p.cfg ∧
      ∀ a < p.cfg.memSize, Memory.read s.mem a = (lastWritten a p.program).getD (initialByte p a)) ∧
    (∀ pre a v post, p.program = pre ++ (a, v) :: post → (∀ x ∈ pre, x.1.toNat < p.cfg.memSize) →
      ¬ a.toNat < p.cfg.memSize → launch p = .error (.outOfRange a))

/-- R8, R39, R40: a meaning changes no byte of memory but those at its stored addresses. R8 is the spec's decision D32,
R40 its decision D27; R39 is its inference from the instruction rules. -/
def Obligations.MemoryChangesOnlyAtStoredAddresses : Prop :=
  ∀ (i : Instr) (s t : State) (a : Nat), exec i s = .next t → (∀ x ∈ storedAddrs s i.form, a ≠ x.toNat) →
    Memory.read t.mem a = Memory.read s.mem a

/-- R8, R15, R20, R25, R28: a meaning changes no register but those its rule writes, and never the status or the
parameters; RETI alone writes IME. R8 is the spec's decision D32, IME its decision D16, the status its decision D19; the
parameters are a field of State by log entry 3 (DESIGN CHOICE). -/
def Obligations.RegistersChangeOnlyAsTheRuleSays : Prop :=
  ∀ (i : Instr) (s t : State), exec i s = .next t →
    (∀ x, x ∉ writtenRegs i.form → regValue t x = regValue s x) ∧ t.status = s.status ∧ t.cfg = s.cfg

/-- R8, R22, R23: a meaning changes no flag but those its rule writes. R8 is the spec's decision D32; R23's list is its
inference from the instruction rules. -/
def Obligations.FlagsChangeOnlyAsTheRuleSays : Prop :=
  ∀ (i : Instr) (s t : State) (k : Flag), exec i s = .next t → k ∉ writtenFlags i.form → t.flag k = s.flag k

/-- R25: no step reads IME: two states that differ in IME alone step alike, and differ at most in IME after. IME is
the spec's decision D16. -/
def Obligations.NoStepReadsIME : Prop :=
  ∀ (s : State) (b : Bool),
    (∀ t, step s = .next t → ∃ t', step { s with ime := b } = .next t' ∧ { t' with ime := t.ime } = t) ∧
    (∀ f, step s = .fault f → step { s with ime := b } = .fault f) ∧
    (∀ r, step s = .refused r → step { s with ime := b } = .refused r)

/-- R61, R165, R166: with MEM_SIZE = 0x10000 every step from Running completes, but for the reserved and the
unimplemented opcodes, which fault by name. R61's counts are the spec's inference from R59 and R60; R165's kinds are its
decisions D14, D15 and D19. -/
def Obligations.FullMemoryStepsComplete : Prop :=
  ∀ s : State, s.status = .running → s.cfg.memSize = 0x10000 →
    (peek s s.pc ∉ reservedOpcodes → peek s s.pc ∉ unimplementedOpcodes → ∃ t, step s = .next t) ∧
    (peek s s.pc ∈ reservedOpcodes → step s = .fault (.reserved (peek s s.pc))) ∧
    (peek s s.pc ∈ unimplementedOpcodes → step s = .fault (.unimplemented (peek s s.pc)))

/-- R52, R191: whatever form stores, and wherever it stores, its own opcode and operand bytes included: the step runs the
instruction that the bytes before it spell, and every fetch of a later step reads the stored bytes, at the addresses
stored to, and the bytes before elsewhere. The premise on memory is an invariant (`StepKeepsTheInvariant`). Both rules
rest on the spec's decision D22. -/
def Obligations.StoresAreSeenByLaterFetches : Prop :=
  ∀ (s : State) (i : Instr) (rest : List Byte), Memory.wf s.mem = true → s.status = .running →
    decode [peek s s.pc, peek s (s.pc + 1), peek s (s.pc + 2)] = .ok (i, rest) →
    (∀ k < instrLength (peek s s.pc), inMemory s (s.pc + BitVec.ofNat 16 k)) →
    let r : State := { s with pc := s.pc + BitVec.ofNat 16 (instrLength (peek s s.pc)) }
    let after := byteAfter r i.form
    storedAddrs r i.form ≠ [] → (∀ a ∈ storedAddrs r i.form, inMemory s a) →
    ∃ t, step s = .next t ∧ exec i r = .next t ∧ t.cfg = s.cfg ∧ (∀ a, peek t a = after a) ∧
      ∀ (u : State) (j : Instr) (rest' : List Byte), u.status = .running → u.mem = t.mem → u.cfg = t.cfg →
        decode [after u.pc, after (u.pc + 1), after (u.pc + 2)] = .ok (j, rest') →
        (∀ k < instrLength (after u.pc), inMemory s (u.pc + BitVec.ofNat 16 k)) →
        step u = exec j { u with pc := u.pc + BitVec.ofNat 16 (instrLength (after u.pc)) }
end

