-- ==== Sys2Proof/Laws/Memory.lean ====
section
/-! SUPPORT. Memory as data: reading after writing, and the canonical form. -/

namespace Sys2Proof.Machine

theorem Memory.wf_nil : Memory.wf [] = true := rfl

theorem Memory.wf_cons_iff (a : Nat) (v : Byte) (m : Memory) :
    Memory.wf ((a, v) :: m) = true ↔ v ≠ Memory.unlisted ∧ (∀ x ∈ m, a < x.1) ∧ Memory.wf m = true := by
  simp [Memory.wf, and_assoc]

/-- A read of an address that no cell has. -/
theorem Memory.read_eq_unlisted (m : Memory) (a : Nat) (h : ∀ x ∈ m, x.1 ≠ a) :
    Memory.read m a = Memory.unlisted := by
  induction m with
  | nil => rfl
  | cons x m ih =>
    simp only [List.mem_cons, forall_eq_or_imp] at h
    simp [Memory.read, h.1, ih h.2]

/-- A write changes no other address (R36). -/
theorem Memory.read_write_other (m : Memory) (a b : Nat) (v : Byte) (h : b ≠ a) :
    Memory.read (Memory.write m a v) b = Memory.read m b := by
  induction m with
  | nil => unfold Memory.write; split <;> simp [Memory.read, h.symm]
  | cons x m ih =>
    obtain ⟨k, w⟩ := x
    unfold Memory.write
    split_ifs with h1 h2 h3 h4
    · rfl
    · simp [Memory.read, h.symm]
    · subst h3; simp [Memory.read, h.symm]
    · subst h3; simp [Memory.read, h.symm]
    · simp [Memory.read, ih]

/-- A read gives the value last written (R49). -/
theorem Memory.read_write_same (m : Memory) (a : Nat) (v : Byte) (hm : Memory.wf m = true) :
    Memory.read (Memory.write m a v) a = v := by
  induction m with
  | nil => unfold Memory.write; split_ifs with h <;> simp [Memory.read, h]
  | cons x m ih =>
    obtain ⟨k, w⟩ := x
    obtain ⟨-, hk, hwf⟩ := (Memory.wf_cons_iff k w m).mp hm
    unfold Memory.write
    split_ifs with h1 h2 h3 h4
    · rw [h2]
      refine Memory.read_eq_unlisted _ _ fun x hx => ?_
      rcases List.mem_cons.mp hx with rfl | hx
      · exact h1.ne'
      · exact (h1.trans (hk x hx)).ne'
    · simp [Memory.read]
    · subst h3; rw [h4]
      exact Memory.read_eq_unlisted _ _ fun x hx => (hk x hx).ne'
    · simp [Memory.read]
    · simp [Memory.read, Ne.symm h3, ih hwf]

/-- The cells after a write are old cells or the written one. -/
theorem Memory.mem_write (m : Memory) (a : Nat) (v : Byte) (x : Host.Cell) (h : x ∈ Memory.write m a v) :
    x ∈ m ∨ x = (a, v) := by
  induction m with
  | nil => unfold Memory.write at h; split at h <;> simp_all
  | cons y m ih =>
    obtain ⟨k, w⟩ := y
    unfold Memory.write at h
    split_ifs at h
    · exact .inl h
    · rcases List.mem_cons.mp h with h | h
      · exact .inr h
      · exact .inl h
    · exact .inl (List.mem_cons_of_mem _ h)
    · rcases List.mem_cons.mp h with h | h
      · exact .inr h
      · exact .inl (List.mem_cons_of_mem _ h)
    · rcases List.mem_cons.mp h with h | h
      · exact .inl (h ▸ List.mem_cons_self)
      · exact (ih h).imp (List.mem_cons_of_mem _) id

/-- A write keeps the canonical form. -/
theorem Memory.wf_write (m : Memory) (a : Nat) (v : Byte) (hm : Memory.wf m = true) :
    Memory.wf (Memory.write m a v) = true := by
  induction m with
  | nil =>
    unfold Memory.write
    split_ifs with h
    · rfl
    · simp [Memory.wf, h]
  | cons x m ih =>
    obtain ⟨k, w⟩ := x
    obtain ⟨hw, hk, hwf⟩ := (Memory.wf_cons_iff k w m).mp hm
    unfold Memory.write
    split_ifs with h1 h2 h3 h4
    · exact hm
    · refine (Memory.wf_cons_iff _ _ _).mpr ⟨h2, fun x hx => ?_, hm⟩
      rcases List.mem_cons.mp hx with rfl | hx
      · exact h1
      · exact h1.trans (hk x hx)
    · exact hwf
    · subst h3; exact (Memory.wf_cons_iff _ _ _).mpr ⟨h4, hk, hwf⟩
    · refine (Memory.wf_cons_iff _ _ _).mpr ⟨hw, fun x hx => ?_, ih hwf⟩
      rcases Memory.mem_write m a v x hx with hx | rfl
      · exact hk x hx
      · exact lt_of_le_of_ne (Nat.le_of_not_lt h1) (Ne.symm h3)

/-- The reset memory has the canonical form. -/
theorem State.reset_mem_wf : Memory.wf State.reset.mem = true := rfl

end Sys2Proof.Machine
end

