-- ==== Sys2Proof/Laws/State.lean ====
section
/-! SUPPORT. One lemma per field per update of the state. -/

namespace Sys2Proof.Machine

/-! `setA` -/

@[simp] theorem State.setA_a (s : State) (v : Byte) : (s.setA v).a = v := rfl
@[simp] theorem State.setA_f (s : State) (v : Byte) : (s.setA v).f = s.f := rfl
@[simp] theorem State.setA_b (s : State) (v : Byte) : (s.setA v).b = s.b := rfl
@[simp] theorem State.setA_c (s : State) (v : Byte) : (s.setA v).c = s.c := rfl
@[simp] theorem State.setA_d (s : State) (v : Byte) : (s.setA v).d = s.d := rfl
@[simp] theorem State.setA_e (s : State) (v : Byte) : (s.setA v).e = s.e := rfl
@[simp] theorem State.setA_h (s : State) (v : Byte) : (s.setA v).h = s.h := rfl
@[simp] theorem State.setA_l (s : State) (v : Byte) : (s.setA v).l = s.l := rfl
@[simp] theorem State.setA_sp (s : State) (v : Byte) : (s.setA v).sp = s.sp := rfl
@[simp] theorem State.setA_pc (s : State) (v : Byte) : (s.setA v).pc = s.pc := rfl
@[simp] theorem State.setA_ime (s : State) (v : Byte) : (s.setA v).ime = s.ime := rfl
@[simp] theorem State.setA_mem (s : State) (v : Byte) : (s.setA v).mem = s.mem := rfl
@[simp] theorem State.setA_status (s : State) (v : Byte) : (s.setA v).status = s.status := rfl
@[simp] theorem State.setA_cfg (s : State) (v : Byte) : (s.setA v).cfg = s.cfg := rfl

/-! `setAF` -/

@[simp] theorem State.setAF_a (s : State) (v : Word) : (s.setAF v).a = hiByte v := rfl
@[simp] theorem State.setAF_f (s : State) (v : Word) : (s.setAF v).f = loByte v &&& 0xF0 := rfl
@[simp] theorem State.setAF_b (s : State) (v : Word) : (s.setAF v).b = s.b := rfl
@[simp] theorem State.setAF_c (s : State) (v : Word) : (s.setAF v).c = s.c := rfl
@[simp] theorem State.setAF_d (s : State) (v : Word) : (s.setAF v).d = s.d := rfl
@[simp] theorem State.setAF_e (s : State) (v : Word) : (s.setAF v).e = s.e := rfl
@[simp] theorem State.setAF_h (s : State) (v : Word) : (s.setAF v).h = s.h := rfl
@[simp] theorem State.setAF_l (s : State) (v : Word) : (s.setAF v).l = s.l := rfl
@[simp] theorem State.setAF_sp (s : State) (v : Word) : (s.setAF v).sp = s.sp := rfl
@[simp] theorem State.setAF_pc (s : State) (v : Word) : (s.setAF v).pc = s.pc := rfl
@[simp] theorem State.setAF_ime (s : State) (v : Word) : (s.setAF v).ime = s.ime := rfl
@[simp] theorem State.setAF_mem (s : State) (v : Word) : (s.setAF v).mem = s.mem := rfl
@[simp] theorem State.setAF_status (s : State) (v : Word) : (s.setAF v).status = s.status := rfl
@[simp] theorem State.setAF_cfg (s : State) (v : Word) : (s.setAF v).cfg = s.cfg := rfl

/-! `setBC` -/

@[simp] theorem State.setBC_a (s : State) (v : Word) : (s.setBC v).a = s.a := rfl
@[simp] theorem State.setBC_f (s : State) (v : Word) : (s.setBC v).f = s.f := rfl
@[simp] theorem State.setBC_b (s : State) (v : Word) : (s.setBC v).b = hiByte v := rfl
@[simp] theorem State.setBC_c (s : State) (v : Word) : (s.setBC v).c = loByte v := rfl
@[simp] theorem State.setBC_d (s : State) (v : Word) : (s.setBC v).d = s.d := rfl
@[simp] theorem State.setBC_e (s : State) (v : Word) : (s.setBC v).e = s.e := rfl
@[simp] theorem State.setBC_h (s : State) (v : Word) : (s.setBC v).h = s.h := rfl
@[simp] theorem State.setBC_l (s : State) (v : Word) : (s.setBC v).l = s.l := rfl
@[simp] theorem State.setBC_sp (s : State) (v : Word) : (s.setBC v).sp = s.sp := rfl
@[simp] theorem State.setBC_pc (s : State) (v : Word) : (s.setBC v).pc = s.pc := rfl
@[simp] theorem State.setBC_ime (s : State) (v : Word) : (s.setBC v).ime = s.ime := rfl
@[simp] theorem State.setBC_mem (s : State) (v : Word) : (s.setBC v).mem = s.mem := rfl
@[simp] theorem State.setBC_status (s : State) (v : Word) : (s.setBC v).status = s.status := rfl
@[simp] theorem State.setBC_cfg (s : State) (v : Word) : (s.setBC v).cfg = s.cfg := rfl

/-! `setDE` -/

@[simp] theorem State.setDE_a (s : State) (v : Word) : (s.setDE v).a = s.a := rfl
@[simp] theorem State.setDE_f (s : State) (v : Word) : (s.setDE v).f = s.f := rfl
@[simp] theorem State.setDE_b (s : State) (v : Word) : (s.setDE v).b = s.b := rfl
@[simp] theorem State.setDE_c (s : State) (v : Word) : (s.setDE v).c = s.c := rfl
@[simp] theorem State.setDE_d (s : State) (v : Word) : (s.setDE v).d = hiByte v := rfl
@[simp] theorem State.setDE_e (s : State) (v : Word) : (s.setDE v).e = loByte v := rfl
@[simp] theorem State.setDE_h (s : State) (v : Word) : (s.setDE v).h = s.h := rfl
@[simp] theorem State.setDE_l (s : State) (v : Word) : (s.setDE v).l = s.l := rfl
@[simp] theorem State.setDE_sp (s : State) (v : Word) : (s.setDE v).sp = s.sp := rfl
@[simp] theorem State.setDE_pc (s : State) (v : Word) : (s.setDE v).pc = s.pc := rfl
@[simp] theorem State.setDE_ime (s : State) (v : Word) : (s.setDE v).ime = s.ime := rfl
@[simp] theorem State.setDE_mem (s : State) (v : Word) : (s.setDE v).mem = s.mem := rfl
@[simp] theorem State.setDE_status (s : State) (v : Word) : (s.setDE v).status = s.status := rfl
@[simp] theorem State.setDE_cfg (s : State) (v : Word) : (s.setDE v).cfg = s.cfg := rfl

/-! `setHL` -/

@[simp] theorem State.setHL_a (s : State) (v : Word) : (s.setHL v).a = s.a := rfl
@[simp] theorem State.setHL_f (s : State) (v : Word) : (s.setHL v).f = s.f := rfl
@[simp] theorem State.setHL_b (s : State) (v : Word) : (s.setHL v).b = s.b := rfl
@[simp] theorem State.setHL_c (s : State) (v : Word) : (s.setHL v).c = s.c := rfl
@[simp] theorem State.setHL_d (s : State) (v : Word) : (s.setHL v).d = s.d := rfl
@[simp] theorem State.setHL_e (s : State) (v : Word) : (s.setHL v).e = s.e := rfl
@[simp] theorem State.setHL_h (s : State) (v : Word) : (s.setHL v).h = hiByte v := rfl
@[simp] theorem State.setHL_l (s : State) (v : Word) : (s.setHL v).l = loByte v := rfl
@[simp] theorem State.setHL_sp (s : State) (v : Word) : (s.setHL v).sp = s.sp := rfl
@[simp] theorem State.setHL_pc (s : State) (v : Word) : (s.setHL v).pc = s.pc := rfl
@[simp] theorem State.setHL_ime (s : State) (v : Word) : (s.setHL v).ime = s.ime := rfl
@[simp] theorem State.setHL_mem (s : State) (v : Word) : (s.setHL v).mem = s.mem := rfl
@[simp] theorem State.setHL_status (s : State) (v : Word) : (s.setHL v).status = s.status := rfl
@[simp] theorem State.setHL_cfg (s : State) (v : Word) : (s.setHL v).cfg = s.cfg := rfl

/-! `setSP` -/

@[simp] theorem State.setSP_a (s : State) (v : Word) : (s.setSP v).a = s.a := rfl
@[simp] theorem State.setSP_f (s : State) (v : Word) : (s.setSP v).f = s.f := rfl
@[simp] theorem State.setSP_b (s : State) (v : Word) : (s.setSP v).b = s.b := rfl
@[simp] theorem State.setSP_c (s : State) (v : Word) : (s.setSP v).c = s.c := rfl
@[simp] theorem State.setSP_d (s : State) (v : Word) : (s.setSP v).d = s.d := rfl
@[simp] theorem State.setSP_e (s : State) (v : Word) : (s.setSP v).e = s.e := rfl
@[simp] theorem State.setSP_h (s : State) (v : Word) : (s.setSP v).h = s.h := rfl
@[simp] theorem State.setSP_l (s : State) (v : Word) : (s.setSP v).l = s.l := rfl
@[simp] theorem State.setSP_sp (s : State) (v : Word) : (s.setSP v).sp = v := rfl
@[simp] theorem State.setSP_pc (s : State) (v : Word) : (s.setSP v).pc = s.pc := rfl
@[simp] theorem State.setSP_ime (s : State) (v : Word) : (s.setSP v).ime = s.ime := rfl
@[simp] theorem State.setSP_mem (s : State) (v : Word) : (s.setSP v).mem = s.mem := rfl
@[simp] theorem State.setSP_status (s : State) (v : Word) : (s.setSP v).status = s.status := rfl
@[simp] theorem State.setSP_cfg (s : State) (v : Word) : (s.setSP v).cfg = s.cfg := rfl

/-! `setPC` -/

@[simp] theorem State.setPC_a (s : State) (v : Word) : (s.setPC v).a = s.a := rfl
@[simp] theorem State.setPC_f (s : State) (v : Word) : (s.setPC v).f = s.f := rfl
@[simp] theorem State.setPC_b (s : State) (v : Word) : (s.setPC v).b = s.b := rfl
@[simp] theorem State.setPC_c (s : State) (v : Word) : (s.setPC v).c = s.c := rfl
@[simp] theorem State.setPC_d (s : State) (v : Word) : (s.setPC v).d = s.d := rfl
@[simp] theorem State.setPC_e (s : State) (v : Word) : (s.setPC v).e = s.e := rfl
@[simp] theorem State.setPC_h (s : State) (v : Word) : (s.setPC v).h = s.h := rfl
@[simp] theorem State.setPC_l (s : State) (v : Word) : (s.setPC v).l = s.l := rfl
@[simp] theorem State.setPC_sp (s : State) (v : Word) : (s.setPC v).sp = s.sp := rfl
@[simp] theorem State.setPC_pc (s : State) (v : Word) : (s.setPC v).pc = v := rfl
@[simp] theorem State.setPC_ime (s : State) (v : Word) : (s.setPC v).ime = s.ime := rfl
@[simp] theorem State.setPC_mem (s : State) (v : Word) : (s.setPC v).mem = s.mem := rfl
@[simp] theorem State.setPC_status (s : State) (v : Word) : (s.setPC v).status = s.status := rfl
@[simp] theorem State.setPC_cfg (s : State) (v : Word) : (s.setPC v).cfg = s.cfg := rfl

/-! `takeFault` -/

@[simp] theorem State.takeFault_a (s : State) (x : Fault) : (s.takeFault x).a = s.a := rfl
@[simp] theorem State.takeFault_f (s : State) (x : Fault) : (s.takeFault x).f = s.f := rfl
@[simp] theorem State.takeFault_b (s : State) (x : Fault) : (s.takeFault x).b = s.b := rfl
@[simp] theorem State.takeFault_c (s : State) (x : Fault) : (s.takeFault x).c = s.c := rfl
@[simp] theorem State.takeFault_d (s : State) (x : Fault) : (s.takeFault x).d = s.d := rfl
@[simp] theorem State.takeFault_e (s : State) (x : Fault) : (s.takeFault x).e = s.e := rfl
@[simp] theorem State.takeFault_h (s : State) (x : Fault) : (s.takeFault x).h = s.h := rfl
@[simp] theorem State.takeFault_l (s : State) (x : Fault) : (s.takeFault x).l = s.l := rfl
@[simp] theorem State.takeFault_sp (s : State) (x : Fault) : (s.takeFault x).sp = s.sp := rfl
@[simp] theorem State.takeFault_pc (s : State) (x : Fault) : (s.takeFault x).pc = s.pc := rfl
@[simp] theorem State.takeFault_ime (s : State) (x : Fault) : (s.takeFault x).ime = s.ime := rfl
@[simp] theorem State.takeFault_mem (s : State) (x : Fault) : (s.takeFault x).mem = s.mem := rfl
@[simp] theorem State.takeFault_status (s : State) (x : Fault) : (s.takeFault x).status = .faulted x := rfl
@[simp] theorem State.takeFault_cfg (s : State) (x : Fault) : (s.takeFault x).cfg = s.cfg := rfl

/-! `writeFlags` -/

@[simp] theorem State.writeFlags_a (s : State) (ws : List (Flag × Bool)) : (s.writeFlags ws).a = s.a := rfl
@[simp] theorem State.writeFlags_f (s : State) (ws : List (Flag × Bool)) : (s.writeFlags ws).f = ws.foldl (fun f w => writeFlag f w.1 w.2) s.f := rfl
@[simp] theorem State.writeFlags_b (s : State) (ws : List (Flag × Bool)) : (s.writeFlags ws).b = s.b := rfl
@[simp] theorem State.writeFlags_c (s : State) (ws : List (Flag × Bool)) : (s.writeFlags ws).c = s.c := rfl
@[simp] theorem State.writeFlags_d (s : State) (ws : List (Flag × Bool)) : (s.writeFlags ws).d = s.d := rfl
@[simp] theorem State.writeFlags_e (s : State) (ws : List (Flag × Bool)) : (s.writeFlags ws).e = s.e := rfl
@[simp] theorem State.writeFlags_h (s : State) (ws : List (Flag × Bool)) : (s.writeFlags ws).h = s.h := rfl
@[simp] theorem State.writeFlags_l (s : State) (ws : List (Flag × Bool)) : (s.writeFlags ws).l = s.l := rfl
@[simp] theorem State.writeFlags_sp (s : State) (ws : List (Flag × Bool)) : (s.writeFlags ws).sp = s.sp := rfl
@[simp] theorem State.writeFlags_pc (s : State) (ws : List (Flag × Bool)) : (s.writeFlags ws).pc = s.pc := rfl
@[simp] theorem State.writeFlags_ime (s : State) (ws : List (Flag × Bool)) : (s.writeFlags ws).ime = s.ime := rfl
@[simp] theorem State.writeFlags_mem (s : State) (ws : List (Flag × Bool)) : (s.writeFlags ws).mem = s.mem := rfl
@[simp] theorem State.writeFlags_status (s : State) (ws : List (Flag × Bool)) : (s.writeFlags ws).status = s.status := rfl
@[simp] theorem State.writeFlags_cfg (s : State) (ws : List (Flag × Bool)) : (s.writeFlags ws).cfg = s.cfg := rfl

end Sys2Proof.Machine
end

