-- ==== Sys2Proof/Laws/Ops.lean ====
section
/-! SUPPORT. What each shared operation can do, said once: the accesses, the stack, the operand forms, and the two ways a
handler ends. -/

namespace Sys2Proof.Machine

/-! ## Handlers -/

@[simp] theorem ok_bind {α β : Type} (v : α) (k : α → Except Fault β) : ((Except.ok v : Except Fault α) >>= k) = k v :=
  rfl

@[simp] theorem error_bind {α β : Type} (f : Fault) (k : α → Except Fault β) :
    ((Except.error f : Except Fault α) >>= k) = .error f := rfl

/-- A sequence succeeds exactly when both parts do. -/
theorem bind_eq_ok {α β : Type} {x : Except Fault α} {k : α → Except Fault β} {t : β} :
    (x >>= k) = .ok t ↔ ∃ v, x = .ok v ∧ k v = .ok t := by
  cases x <;> simp

@[simp] theorem finish_ok (s : State) : finish (.ok s) = .next s := rfl

@[simp] theorem finish_error (f : Fault) : finish (.error f) = .fault f := rfl

theorem finish_eq_next {x : Except Fault State} {t : State} : finish x = .next t ↔ x = .ok t := by
  cases x <;> simp

theorem finish_eq_fault {x : Except Fault State} {f : Fault} : finish x = .fault f ↔ x = .error f := by
  cases x <;> simp

theorem finish_ne_refused (x : Except Fault State) (r : Refusal) : finish x ≠ .refused r := by
  cases x <;> simp

/-! ## Bytes of words -/

theorem getLsbD_joinBytes (h l : Byte) (i : Nat) :
    (joinBytes h l).getLsbD i = if i < 8 then l.getLsbD i else h.getLsbD (i - 8) := by
  show BitVec.getLsbD (h ++ l) i = _
  rw [BitVec.getLsbD_append]

theorem getLsbD_hiByte (w : Word) (i : Nat) : (hiByte w).getLsbD i = (decide (i < 8) && w.getLsbD (8 + i)) := by
  simp [hiByte]

theorem getLsbD_loByte (w : Word) (i : Nat) : (loByte w).getLsbD i = (decide (i < 8) && w.getLsbD i) := by
  simp [loByte]

@[simp] theorem joinBytes_hi_lo (w : Word) : joinBytes (hiByte w) (loByte w) = w := by
  refine BitVec.eq_of_getLsbD_eq fun i hi => ?_
  rw [getLsbD_joinBytes, getLsbD_hiByte, getLsbD_loByte]
  split_ifs with h
  · simp [h]
  · rw [Nat.add_sub_cancel' (by omega)]; simp; omega

@[simp] theorem hiByte_joinBytes (h l : Byte) : hiByte (joinBytes h l) = h := by
  refine BitVec.eq_of_getLsbD_eq fun i hi => ?_
  rw [getLsbD_hiByte, getLsbD_joinBytes]
  simp [hi]

@[simp] theorem loByte_joinBytes (h l : Byte) : loByte (joinBytes h l) = l := by
  refine BitVec.eq_of_getLsbD_eq fun i hi => ?_
  rw [getLsbD_loByte, getLsbD_joinBytes]
  simp [hi]

/-! The same as numbers. -/

theorem joinBytes_eq_ofNat (h l : Byte) : joinBytes h l = BitVec.ofNat 16 (256 * h.toNat + l.toNat) := by
  apply BitVec.eq_of_toNat_eq
  show (h ++ l).toNat = _
  rw [BitVec.toNat_append, ← Nat.shiftLeft_add_eq_or_of_lt l.isLt, Nat.shiftLeft_eq, BitVec.toNat_ofNat]
  omega

theorem toNat_joinBytes (h l : Byte) : (joinBytes h l).toNat = 256 * h.toNat + l.toNat := by
  rw [joinBytes_eq_ofNat, BitVec.toNat_ofNat]; omega

theorem hiByte_eq_ofNat (w : Word) : hiByte w = BitVec.ofNat 8 (w.toNat / 256) := by
  apply BitVec.eq_of_toNat_eq
  simp [hiByte, BitVec.extractLsb'_toNat, Nat.shiftRight_eq_div_pow]

theorem loByte_eq_ofNat (w : Word) : loByte w = BitVec.ofNat 8 w.toNat := by
  apply BitVec.eq_of_toNat_eq
  simp [loByte, BitVec.extractLsb'_toNat]

/-! ## Accesses -/

theorem readByte_ok {s : State} {a : Word} (h : a.toNat < s.cfg.memSize) :
    readByte s a = .ok (Memory.read s.mem a.toNat) := if_pos h

theorem readByte_error {s : State} {a : Word} (h : ¬ a.toNat < s.cfg.memSize) :
    readByte s a = .error (.outOfRange a) := if_neg h

theorem readByte_eq_ok {s : State} {a : Word} {v : Byte} :
    readByte s a = .ok v ↔ a.toNat < s.cfg.memSize ∧ Memory.read s.mem a.toNat = v := by
  unfold readByte raise; split <;> simp_all

theorem writeByte_ok {s : State} {a : Word} {v : Byte} (h : a.toNat < s.cfg.memSize) :
    writeByte s a v = .ok { s with mem := Memory.write s.mem a.toNat v } := if_pos h

theorem writeByte_error {s : State} {a : Word} {v : Byte} (h : ¬ a.toNat < s.cfg.memSize) :
    writeByte s a v = .error (.outOfRange a) := if_neg h

theorem writeByte_eq_ok {s t : State} {a : Word} {v : Byte} :
    writeByte s a v = .ok t ↔ a.toNat < s.cfg.memSize ∧ t = { s with mem := Memory.write s.mem a.toNat v } := by
  unfold writeByte raise; split <;> simp_all [eq_comm]

/-! ## The stack -/

/-- Everything a push that succeeds does (R44). -/
theorem push16_eq_ok {s t : State} {v : Word} :
    push16 s v = .ok t ↔
      (s.sp - 1).toNat < s.cfg.memSize ∧ (s.sp - 1 - 1).toNat < s.cfg.memSize ∧
      t = { s with sp := s.sp - 1 - 1
                   mem := Memory.write (Memory.write s.mem (s.sp - 1).toNat (hiByte v)) (s.sp - 1 - 1).toNat (loByte v) } := by
  simp only [push16, bind_eq_ok, writeByte_eq_ok, State.setSP_sp, State.setSP_cfg, State.setSP_mem]
  constructor
  · rintro ⟨u, ⟨h1, rfl⟩, h2, rfl⟩; exact ⟨h1, h2, rfl⟩
  · rintro ⟨h1, h2, rfl⟩; exact ⟨_, ⟨h1, rfl⟩, h2, rfl⟩

/-- Everything a pop that succeeds does (R45). -/
theorem pop16_eq_ok {s t : State} {v : Word} :
    pop16 s = .ok (v, t) ↔
      s.sp.toNat < s.cfg.memSize ∧ (s.sp + 1).toNat < s.cfg.memSize ∧
      v = joinBytes (Memory.read s.mem (s.sp + 1).toNat) (Memory.read s.mem s.sp.toNat) ∧
      t = { s with sp := s.sp + 1 + 1 } := by
  simp only [pop16, bind_eq_ok, readByte_eq_ok, State.setSP_sp, State.setSP_cfg, State.setSP_mem, Except.ok.injEq,
    Prod.mk.injEq]
  constructor
  · rintro ⟨lo, ⟨h1, rfl⟩, hi, ⟨h2, rfl⟩, rfl, rfl⟩; exact ⟨h1, h2, rfl, rfl⟩
  · rintro ⟨h1, h2, rfl, rfl⟩; exact ⟨_, ⟨h1, rfl⟩, _, ⟨h2, rfl⟩, rfl, rfl⟩

/-! ## Operand forms -/

/-- What a write of an 8-bit operand can do: it changes one register, or one byte of memory at HL (R58). -/
theorem writeR8_cases {s t : State} {r : R8} {v : Byte} (h : writeR8 s r v = .ok t) :
    (r = .b ∧ t = { s with b := v }) ∨ (r = .c ∧ t = { s with c := v }) ∨ (r = .d ∧ t = { s with d := v }) ∨
    (r = .e ∧ t = { s with e := v }) ∨ (r = .h ∧ t = { s with h := v }) ∨ (r = .l ∧ t = { s with l := v }) ∨
    (r = .a ∧ t = { s with a := v }) ∨
    (r = .atHL ∧ s.hl.toNat < s.cfg.memSize ∧ t = { s with mem := Memory.write s.mem s.hl.toNat v }) := by
  cases r
  case atHL => simpa [writeByte_eq_ok] using writeByte_eq_ok.mp h
  all_goals cases h; simp

/-- A write of an 8-bit operand leaves everything but registers B to L, A and memory alone. -/
theorem writeR8_frame {s t : State} {r : R8} {v : Byte} (h : writeR8 s r v = .ok t) :
    t.f = s.f ∧ t.sp = s.sp ∧ t.pc = s.pc ∧ t.ime = s.ime ∧ t.status = s.status ∧ t.cfg = s.cfg := by
  rcases writeR8_cases h with ⟨-, rfl⟩ | ⟨-, rfl⟩ | ⟨-, rfl⟩ | ⟨-, rfl⟩ | ⟨-, rfl⟩ | ⟨-, rfl⟩ | ⟨-, rfl⟩ | ⟨-, -, rfl⟩ <;>
    simp

/-- A read of an 8-bit operand fails only at HL, outside memory (R58, R34). -/
theorem readR8_error {s : State} {r : R8} {f : Fault} (h : readR8 s r = .error f) :
    r = .atHL ∧ ¬ s.hl.toNat < s.cfg.memSize ∧ f = .outOfRange s.hl := by
  cases r <;> simp_all [readR8, readByte, raise, eq_comm]
  split at h <;> simp_all

/-- A pair or SP reads back as written. -/
@[simp] theorem readRR_writeRR (s : State) (p : RR) (v : Word) : readRR (writeRR s p v) p = v := by
  cases p <;> simp [readRR, writeRR, State.bc, State.de, State.hl]

end Sys2Proof.Machine
end

