-- ==== Sys2Proof/Laws/Fetch.lean ====
section
/-! SUPPORT. What decoding and fetching can do, by the length of the instruction. -/

namespace Sys2Proof.Machine

/-- A length is 1, 2 or 3 (R54). -/
theorem instrLength_cases (op : Byte) : instrLength op = 1 ∨ instrLength op = 2 ∨ instrLength op = 3 := by
  revert op; decide

/-! ## The decoder, by length -/

theorem decode_one {op : Byte} {rest : List Byte} (h : instrLength op = 1) :
    decode (op :: rest) = .ok (decodeBytes op 0 0, rest) := by simp only [decode, h]

theorem decode_two {op b1 : Byte} {rest : List Byte} (h : instrLength op = 2) :
    decode (op :: b1 :: rest) = .ok (decodeBytes op b1 0, rest) := by simp only [decode, h]

theorem decode_three {op b1 b2 : Byte} {rest : List Byte} (h : instrLength op = 3) :
    decode (op :: b1 :: b2 :: rest) = .ok (decodeBytes op b1 b2, rest) := by simp only [decode, h]

/-- Everything a decoding that succeeds read (R54). -/
theorem decode_eq_ok {bytes rest : List Byte} {i : Instr} (h : decode bytes = .ok (i, rest)) :
    ∃ op b1 b2, i = decodeBytes op b1 b2 ∧
      ((instrLength op = 1 ∧ b1 = 0 ∧ b2 = 0 ∧ bytes = op :: rest) ∨
      (instrLength op = 2 ∧ b2 = 0 ∧ bytes = op :: b1 :: rest) ∨
      (instrLength op = 3 ∧ bytes = op :: b1 :: b2 :: rest)) := by
  rcases bytes with _ | ⟨op, tl⟩
  · cases h
  rcases instrLength_cases op with hl | hl | hl
  · rw [decode_one hl] at h; cases h
    exact ⟨op, 0, 0, rfl, .inl ⟨hl, rfl, rfl, rfl⟩⟩
  · rcases tl with _ | ⟨b1, tl⟩
    · simp [decode, hl] at h
    · rw [decode_two hl] at h; cases h
      exact ⟨op, b1, 0, rfl, .inr (.inl ⟨hl, rfl, rfl⟩)⟩
  · rcases tl with _ | ⟨b1, _ | ⟨b2, tl⟩⟩
    · simp [decode, hl] at h
    · simp [decode, hl] at h
    · rw [decode_three hl] at h; cases h
      exact ⟨op, b1, b2, rfl, .inr (.inr ⟨hl, rfl⟩)⟩

/-! ## The fetch, by length -/

theorem fetch_one {s : State} (h0 : s.pc.toNat < s.cfg.memSize) (h : instrLength (Memory.read s.mem s.pc.toNat) = 1) :
    fetch s = .ok ⟨decodeBytes (Memory.read s.mem s.pc.toNat) 0 0, s.pc + 1⟩ := by
  simp only [fetch, readByte_ok h0, ok_bind, h]

theorem fetch_two {s : State} (h0 : s.pc.toNat < s.cfg.memSize) (h : instrLength (Memory.read s.mem s.pc.toNat) = 2) :
    fetch s = (readByte s (s.pc + 1) >>= fun b1 =>
      .ok ⟨decodeBytes (Memory.read s.mem s.pc.toNat) b1 0, s.pc + 2⟩) := by
  simp only [fetch, readByte_ok h0, ok_bind, h]

theorem fetch_three {s : State} (h0 : s.pc.toNat < s.cfg.memSize)
    (h : instrLength (Memory.read s.mem s.pc.toNat) = 3) :
    fetch s = (readByte s (s.pc + 1) >>= fun b1 => readByte s (s.pc + 2) >>= fun b2 =>
      .ok ⟨decodeBytes (Memory.read s.mem s.pc.toNat) b1 b2, s.pc + 3⟩) := by
  simp only [fetch, readByte_ok h0, ok_bind, h]

/-- Everything a fetch that succeeds read (R67). -/
theorem fetch_eq_ok {s : State} {x : Fetched} (h : fetch s = .ok x) :
    s.pc.toNat < s.cfg.memSize ∧ ∃ b1 b2, x.instr = decodeBytes (Memory.read s.mem s.pc.toNat) b1 b2 ∧
      ((instrLength (Memory.read s.mem s.pc.toNat) = 1 ∧ b1 = 0 ∧ b2 = 0 ∧ x.next = s.pc + 1) ∨
      (instrLength (Memory.read s.mem s.pc.toNat) = 2 ∧ readByte s (s.pc + 1) = .ok b1 ∧ b2 = 0 ∧ x.next = s.pc + 2) ∨
      (instrLength (Memory.read s.mem s.pc.toNat) = 3 ∧ readByte s (s.pc + 1) = .ok b1 ∧
        readByte s (s.pc + 2) = .ok b2 ∧ x.next = s.pc + 3)) := by
  have h0 : s.pc.toNat < s.cfg.memSize := by
    by_contra hn
    simp [fetch, readByte_error hn] at h
  refine ⟨h0, ?_⟩
  rcases instrLength_cases (Memory.read s.mem s.pc.toNat) with hl | hl | hl
  · rw [fetch_one h0 hl] at h; cases h
    exact ⟨0, 0, rfl, .inl ⟨hl, rfl, rfl, rfl⟩⟩
  · rw [fetch_two h0 hl] at h
    obtain ⟨b1, h1, h⟩ := bind_eq_ok.mp h; cases h
    exact ⟨b1, 0, rfl, .inr (.inl ⟨hl, h1, rfl, rfl⟩)⟩
  · rw [fetch_three h0 hl] at h
    obtain ⟨b1, h1, h⟩ := bind_eq_ok.mp h
    obtain ⟨b2, h2, h⟩ := bind_eq_ok.mp h; cases h
    exact ⟨b1, b2, rfl, .inr (.inr ⟨hl, h1, h2, rfl⟩)⟩

/-! ## The step -/

theorem step_of_fetch {s : State} {x : Fetched} (hs : s.status = .running) (h : fetch s = .ok x) :
    step s = exec x.instr (s.setPC x.next) := by simp only [step, hs, h]

theorem step_of_fetch_error {s : State} {f : Fault} (hs : s.status = .running) (h : fetch s = .error f) :
    step s = .fault f := by simp only [step, hs, h]

/-- A Faulted state's step is refused with the recorded fault (R185). -/
theorem step_of_faulted {s : State} {f : Fault} (hs : s.status = .faulted f) : step s = .refused (.alreadyFaulted f) := by
  simp only [step, hs]

end Sys2Proof.Machine
end

