-- ==== Sys2Proof/Laws/Flags.lean ====
section
/-! SUPPORT. The flag register: what writing flags does to each flag and to the reserved bits. -/

namespace Sys2Proof.Machine

/-- Writing one flag sets it and keeps the other three (R22). -/
theorem getBit_writeFlag (f : Byte) (k j : Flag) (b : Bool) :
    getBit (writeFlag f k b) (flagBit j) = if j = k then b else getBit f (flagBit j) := by
  cases k <;> cases j <;> cases b <;>
    simp [writeFlag, assignBit, setBit, clearBit, getBit, flagBit]

/-- Writing one flag zeroes F[3:0] (R22). -/
theorem writeFlag_low (f : Byte) (k : Flag) (b : Bool) : writeFlag f k b &&& 0x0F = 0 := by
  simp [writeFlag, BitVec.and_assoc]

/-- Each flag of an assembled F (R21). -/
@[simp] theorem getBit_flagsByte (z n h c : Bool) (k : Flag) :
    getBit (flagsByte z n h c) (flagBit k) = match k with | .z => z | .n => n | .h => h | .c => c := by
  cases z <;> cases n <;> cases h <;> cases c <;> cases k <;> rfl

/-- An assembled F has F[3:0] = 0 (R21). -/
theorem flagsByte_low (z n h c : Bool) : flagsByte z n h c &&& 0x0F = 0 := by
  cases z <;> cases n <;> cases h <;> cases c <;> rfl

/-- A byte with F[3:0] = 0 is determined by its flags. -/
theorem eq_flagsByte (f : Byte) (h : f &&& 0x0F = 0) :
    f = flagsByte (getBit f (flagBit .z)) (getBit f (flagBit .n)) (getBit f (flagBit .h)) (getBit f (flagBit .c)) := by
  revert h; revert f; decide

/-- A list of flag writes that writes something leaves F[3:0] = 0. -/
theorem foldl_writeFlag_low (f : Byte) (w : Flag × Bool) (ws : List (Flag × Bool)) :
    (w :: ws).foldl (fun f w => writeFlag f w.1 w.2) f &&& 0x0F = 0 := by
  induction ws generalizing f w with
  | nil => exact writeFlag_low ..
  | cons x ws ih => exact ih (writeFlag f w.1 w.2) x

/-- A list of flag writes keeps F[3:0] = 0. -/
theorem State.writeFlags_low (s : State) (ws : List (Flag × Bool)) (h : s.f &&& 0x0F = 0) :
    (s.writeFlags ws).f &&& 0x0F = 0 := by
  cases ws with
  | nil => exact h
  | cons w ws => exact foldl_writeFlag_low s.f w ws

/-- A list of flag writes, flag by flag: the last write of the flag, or the old value (R22). -/
theorem State.flag_writeFlags_cons (s : State) (w : Flag × Bool) (ws : List (Flag × Bool)) (k : Flag) :
    (s.writeFlags (w :: ws)).flag k = (({ s with f := writeFlag s.f w.1 w.2 } : State).writeFlags ws).flag k := rfl

/-- A flag that no write names keeps its value (R8). -/
theorem State.flag_writeFlags_other (s : State) (ws : List (Flag × Bool)) (k : Flag) (h : ∀ w ∈ ws, w.1 ≠ k) :
    (s.writeFlags ws).flag k = s.flag k := by
  induction ws generalizing s with
  | nil => rfl
  | cons w ws ih =>
    rw [State.flag_writeFlags_cons, ih _ fun x hx => h x (List.mem_cons_of_mem _ hx)]
    simp only [State.flag, getBit_writeFlag]
    exact if_neg (Ne.symm (h w List.mem_cons_self))

/-- Writing all four flags gives the assembled F, whatever F was. -/
@[simp] theorem State.writeFlags_all (s : State) (z n h c : Bool) :
    s.writeFlags [(.z, z), (.n, n), (.h, h), (.c, c)] = { s with f := flagsByte z n h c } := by
  have low := foldl_writeFlag_low s.f (.z, z) [(.n, n), (.h, h), (.c, c)]
  have := eq_flagsByte _ low
  unfold State.writeFlags
  rw [this]
  simp [getBit_writeFlag]

/-- Writing Z, N and H keeps C and gives an assembled F. -/
@[simp] theorem State.writeFlags_znh (s : State) (z n h : Bool) :
    s.writeFlags [(.z, z), (.n, n), (.h, h)] = { s with f := flagsByte z n h (s.flag .c) } := by
  have low := foldl_writeFlag_low s.f (.z, z) [(.n, n), (.h, h)]
  have := eq_flagsByte _ low
  unfold State.writeFlags
  rw [this]
  simp [getBit_writeFlag, State.flag]

/-- Writing N, H and C keeps Z and gives an assembled F. -/
@[simp] theorem State.writeFlags_nhc (s : State) (n h c : Bool) :
    s.writeFlags [(.n, n), (.h, h), (.c, c)] = { s with f := flagsByte (s.flag .z) n h c } := by
  have low := foldl_writeFlag_low s.f (.n, n) [(.h, h), (.c, c)]
  have := eq_flagsByte _ low
  unfold State.writeFlags
  rw [this]
  simp [getBit_writeFlag, State.flag]

/-- Writing Z, H and C keeps N and gives an assembled F (DAA). -/
@[simp] theorem State.writeFlags_zhc (s : State) (z h c : Bool) :
    s.writeFlags [(.z, z), (.h, h), (.c, c)] = { s with f := flagsByte z (s.flag .n) h c } := by
  have low := foldl_writeFlag_low s.f (.z, z) [(.h, h), (.c, c)]
  have := eq_flagsByte _ low
  unfold State.writeFlags
  rw [this]
  simp [getBit_writeFlag, State.flag]

/-- Writing N and H keeps Z and C and gives an assembled F (CPL). -/
@[simp] theorem State.writeFlags_nh (s : State) (n h : Bool) :
    s.writeFlags [(.n, n), (.h, h)] = { s with f := flagsByte (s.flag .z) n h (s.flag .c) } := by
  have low := foldl_writeFlag_low s.f (.n, n) [(.h, h)]
  have := eq_flagsByte _ low
  unfold State.writeFlags
  rw [this]
  simp [getBit_writeFlag, State.flag]

/-- A flag of a state given F. -/
@[simp] theorem State.flag_with_f (s : State) (f : Byte) (k : Flag) :
    ({ s with f := f } : State).flag k = getBit f (flagBit k) := rfl

end Sys2Proof.Machine
end

