-- ==== Sys2Proof/Laws/Form.lean ====
section
/-! SUPPORT. Every meaning is the shared handler of the row's form (`exec_eq_handler`), so that a proof over all 512 rows
is a case split over the forms. -/

namespace Sys2Proof.Machine

/-- A row is the row of its form. -/
@[simp] theorem instrOf_form (i : Instr) : instrOf i.form = i := by cases i <;> rfl

/-- A form is the form of its row, but for the place of LD (HL),(HL), which is HALT (R159). -/
theorem form_instrOf (x : Form) (h : x ≠ .ld .atHL .atHL) : (instrOf x).form = x := by
  cases x
  case ld dst src => revert h; cases dst <;> cases src <;> simp <;> rfl
  case alu o r => cases o <;> cases r <;> rfl
  case aluImm o n => cases o <;> rfl
  case cb o r => cases o <;> cases r <;> rfl
  case bit i r => fin_cases i <;> cases r <;> rfl
  case res i r => fin_cases i <;> cases r <;> rfl
  case set i r => fin_cases i <;> cases r <;> rfl
  case rst t => fin_cases t <;> rfl
  case ldRR p n | incRR p | decRR p | addHL p | ldIndA p | ldAInd p => cases p <;> rfl
  case inc r | dec r | ldImm r n => cases r <;> rfl
  case accRot o => cases o <;> rfl
  case jrCond k e | retCond k | jpCond k a | callCond k a => cases k <;> rfl
  case pop q | push q => cases q <;> rfl
  case reserved x => cases x <;> rfl
  all_goals rfl

/-- The opcode of a reserved row (R62). -/
def holeOpcode : Hole → Byte
  | .hD3 => 0xD3 | .hDB => 0xDB | .hDD => 0xDD | .hE3 => 0xE3 | .hE4 => 0xE4 | .hEB => 0xEB | .hEC => 0xEC
  | .hED => 0xED | .hF4 => 0xF4 | .hFC => 0xFC | .hFD => 0xFD

/-- The shared operation that a form's rows run. -/
def handler : Form → State → Except Fault State
  | .nop => nothing
  | .ldRR p n => loadRR p n
  | .incRR p => incRR p
  | .decRR p => decRR p
  | .addHL p => addHL p
  | .ldIndA p => storeInd p
  | .ldAInd p => loadInd p
  | .inc r => incR8 r
  | .dec r => decR8 r
  | .ldImm r n => loadImm r n
  | .accRot o => accRotate o
  | .daa => decimalAdjust
  | .cpl => complementA
  | .scf => setCarry
  | .ccf => complementCarry
  | .ldFarSP a => storeSP a
  | .stop _ => unimplementedOp 0x10
  | .jr e => jumpRel e
  | .jrCond k e => whenCond k (jumpRel e)
  | .ld .atHL .atHL => unimplementedOp 0x76
  | .ld dst src => load dst src
  | .halt => unimplementedOp 0x76
  | .alu o r => aluR8 o r
  | .aluImm o n => aluImm o n
  | .retCond k => whenCond k ret
  | .jpCond k a => whenCond k (jump a)
  | .callCond k a => whenCond k (call a)
  | .pop q => popQQ q
  | .push q => pushQQ q
  | .rst t => call (rstVector t)
  | .jp a => jump a
  | .ret => ret
  | .reti => retInterrupt
  | .call a => call a
  | .prefixCB op => runCBEntry op
  | .ldhStore n => storeA (near n)
  | .ldhLoad n => loadA (near n)
  | .ldCStore => fun s => storeA (near s.c) s
  | .ldCLoad => fun s => loadA (near s.c) s
  | .ldFarStore a => storeA a
  | .ldFarLoad a => loadA a
  | .addSP e => addSP e
  | .ldHLSP e => loadHLSP e
  | .jpHL => fun s => jump s.hl s
  | .ldSPHL => loadSPHL
  | .di => unimplementedOp 0xF3
  | .ei => unimplementedOp 0xFB
  | .reserved x => reservedOp (holeOpcode x)
  | .cb o r => cbR8 o r
  | .bit i r => bitTest i r
  | .res i r => bitReset i r
  | .set i r => bitSet i r

/-- Every row's meaning is its form's shared operation. -/
theorem exec_eq_handler (i : Instr) (s : State) : exec i s = finish (handler i.form s) := by cases i <;> rfl

/-- The same, for the row of a form. -/
theorem exec_instrOf (x : Form) (s : State) : exec (instrOf x) s = finish (handler x s) := by
  by_cases h : x = .ld .atHL .atHL
  · subst h; rfl
  · rw [exec_eq_handler, form_instrOf x h]

/-- No meaning refuses. -/
theorem exec_ne_refused (i : Instr) (s : State) (r : Refusal) : exec i s ≠ .refused r := by
  rw [exec_eq_handler]; exact finish_ne_refused _ r

/-- Everything a step that answers a next state did: it fetched from Running and ran the handler past the instruction. -/
theorem step_eq_next {s t : State} (h : step s = .next t) :
    s.status = .running ∧ ∃ x, fetch s = .ok x ∧ handler x.instr.form (s.setPC x.next) = .ok t := by
  unfold step at h
  split at h
  · cases h
  · rename_i hs
    split at h
    · cases h
    · rename_i x hx
      exact ⟨hs, x, hx, finish_eq_next.mp (exec_eq_handler .. ▸ h)⟩

end Sys2Proof.Machine
end

