-- ==== Sys2Proof/Laws/HostInterface.lean ====
section
/-! SUPPORT. What the host's operations before the first step can do: the initial memory and the loader's writes. -/

namespace Sys2Proof.Machine

/-! ## The initial memory (R181) -/

theorem initialMemory_wf (n : Nat) (cells : List Host.Cell) : Memory.wf (initialMemory n cells) = true := by
  induction cells with
  | nil => rfl
  | cons x cells ih => unfold initialMemory; split; exacts [Memory.wf_write _ _ _ ih, ih]

/-- The initial memory lists nothing at or above MEM_SIZE. -/
theorem initialMemory_bounded (n : Nat) (cells : List Host.Cell) : ∀ x ∈ initialMemory n cells, x.1 < n := by
  induction cells with
  | nil => simp [initialMemory]
  | cons x cells ih =>
    unfold initialMemory
    split
    · rename_i h
      rintro y hy
      rcases Memory.mem_write _ _ _ _ hy with hy | rfl
      exacts [ih y hy, h]
    · exact ih

/-- An address inside memory holds the first byte the launch lists for it, else the fill byte. -/
theorem read_initialMemory {n a : Nat} (cells : List Host.Cell) (h : a < n) :
    Memory.read (initialMemory n cells) a = (cells.lookup a).getD Memory.unlisted := by
  induction cells with
  | nil => rfl
  | cons x cells ih =>
    by_cases hx : a = x.1
    · subst hx
      rw [show List.lookup x.1 (x :: cells) = some x.2 by obtain ⟨a, v⟩ := x; simp]
      simp [initialMemory, h, Memory.read_write_same _ _ _ (initialMemory_wf n cells)]
    · have hx' : (a == x.1) = false := by simpa using hx
      rw [List.lookup_cons, hx']
      unfold initialMemory
      split
      exacts [(Memory.read_write_other _ _ _ _ hx).trans ih, ih]

/-! ## The loader (R186) -/

/-- A write of one byte inside memory keeps the invariant. -/
theorem State.Inv.write {s : State} (hs : s.Inv) {a : Word} (v : Byte) (h : a.toNat < s.cfg.memSize) :
    State.Inv { s with mem := Memory.write s.mem a.toNat v } :=
  ⟨hs.reservedLow, hs.config, Memory.wf_write _ _ _ hs.canonical, fun x hx => by
    rcases Memory.mem_write _ _ _ _ hx with hx | rfl
    exacts [hs.bounded x hx, h]⟩

/-- A list of writes that starts inside memory makes that write, then the rest. -/
theorem loadAll_cons {s : State} {a : Word} (v : Byte) (rest : List (Word × Byte)) (h : a.toNat < s.cfg.memSize) :
    loadAll s ((a, v) :: rest) = loadAll { s with mem := Memory.write s.mem a.toNat v } rest := by
  simp only [loadAll, loaderWrite, writeByte_ok h, ok_bind]

/-- A list of writes that starts outside memory faults there. -/
theorem loadAll_cons_outside {s : State} {a : Word} (v : Byte) (rest : List (Word × Byte))
    (h : ¬ a.toNat < s.cfg.memSize) : loadAll s ((a, v) :: rest) = .error (.outOfRange a) := by
  simp only [loadAll, loaderWrite, writeByte_error h, error_bind]

end Sys2Proof.Machine
end

