-- ==== Sys2Proof/Laws/Meanings.lean ====
section
/-! SUPPORT. What each shared operation behind the meanings can do when it succeeds, said once per operation: which
accesses it made and the state it leaves. -/

namespace Sys2Proof.Machine

/-! ## Increment and decrement -/

theorem incR8_eq_ok {r : R8} {s t : State} :
    incR8 r s = .ok t ↔ ∃ v u, readR8 s r = .ok v ∧ writeR8 s r (v + 1) = .ok u ∧
      t = { u with f := flagsByte (v + 1 == 0) false (halfCarryAdd v 1) (s.flag .c) } := by
  simp only [incR8, bind_eq_ok, State.writeFlags_znh, Except.ok.injEq]
  constructor
  · rintro ⟨v, hv, u, hu, rfl⟩; exact ⟨v, u, hv, hu, by simp [State.flag, (writeR8_frame hu).1]⟩
  · rintro ⟨v, u, hv, hu, rfl⟩; exact ⟨v, hv, u, hu, by simp [State.flag, (writeR8_frame hu).1]⟩

theorem decR8_eq_ok {r : R8} {s t : State} :
    decR8 r s = .ok t ↔ ∃ v u, readR8 s r = .ok v ∧ writeR8 s r (v - 1) = .ok u ∧
      t = { u with f := flagsByte (v - 1 == 0) true (halfCarrySub v 1) (s.flag .c) } := by
  simp only [decR8, bind_eq_ok, State.writeFlags_znh, Except.ok.injEq]
  constructor
  · rintro ⟨v, hv, u, hu, rfl⟩; exact ⟨v, u, hv, hu, by simp [State.flag, (writeR8_frame hu).1]⟩
  · rintro ⟨v, u, hv, hu, rfl⟩; exact ⟨v, hv, u, hu, by simp [State.flag, (writeR8_frame hu).1]⟩

/-! ## The ALU -/

theorem aluR8_eq_ok {o : AluOp} {r : R8} {s t : State} :
    aluR8 o r s = .ok t ↔ ∃ v, readR8 s r = .ok v ∧ t = aluOp o v s := by
  simp only [aluR8, bind_eq_ok, Except.ok.injEq, eq_comm (a := t)]

/-- An ALU operation changes A and F alone. -/
theorem aluOp_frame (o : AluOp) (v : Byte) (s : State) : aluOp o v s = { s with a := (aluOp o v s).a, f := (aluOp o v s).f } := by
  cases o <;> rfl

/-- An ALU operation leaves an assembled F. -/
theorem aluOp_low (o : AluOp) (v : Byte) (s : State) : (aluOp o v s).f &&& 0x0F = 0 := by
  cases o <;> exact foldl_writeFlag_low _ _ _

/-! ## Rotates and single bits -/

theorem cbR8_eq_ok {o : CbOp} {r : R8} {s t : State} :
    cbR8 o r s = .ok t ↔ ∃ v u, readR8 s r = .ok v ∧ writeR8 s r (cbBits o v (s.flag .c)).1 = .ok u ∧
      t = { u with f := flagsByte ((cbBits o v (s.flag .c)).1 == 0) false false (cbBits o v (s.flag .c)).2 } := by
  simp only [cbR8, bind_eq_ok, State.writeFlags_all, Except.ok.injEq]
  constructor
  · rintro ⟨v, hv, u, hu, rfl⟩; exact ⟨v, u, hv, hu, rfl⟩
  · rintro ⟨v, u, hv, hu, rfl⟩; exact ⟨v, hv, u, hu, rfl⟩

theorem bitTest_eq_ok {i : Fin 8} {r : R8} {s t : State} :
    bitTest i r s = .ok t ↔ ∃ v, readR8 s r = .ok v ∧
      t = { s with f := flagsByte (!getBit v i.val) false true (s.flag .c) } := by
  simp only [bitTest, bind_eq_ok, State.writeFlags_znh, Except.ok.injEq, eq_comm (a := t)]

theorem bitReset_eq_ok {i : Fin 8} {r : R8} {s t : State} :
    bitReset i r s = .ok t ↔ ∃ v, readR8 s r = .ok v ∧ writeR8 s r (clearBit v i.val) = .ok t := bind_eq_ok

theorem bitSet_eq_ok {i : Fin 8} {r : R8} {s t : State} :
    bitSet i r s = .ok t ↔ ∃ v, readR8 s r = .ok v ∧ writeR8 s r (setBit v i.val) = .ok t := bind_eq_ok

/-! ## Loads and stores -/

theorem load_eq_ok {dst src : R8} {s t : State} :
    load dst src s = .ok t ↔ ∃ v, readR8 s src = .ok v ∧ writeR8 s dst v = .ok t := bind_eq_ok

theorem storeInd_eq_ok {p : Ind} {s t : State} :
    storeInd p s = .ok t ↔ (indAddr s p).toNat < s.cfg.memSize ∧
      t = indUpdate { s with mem := Memory.write s.mem (indAddr s p).toNat s.a } p := by
  simp only [storeInd, bind_eq_ok, writeByte_eq_ok, Except.ok.injEq]
  constructor
  · rintro ⟨u, ⟨h, rfl⟩, rfl⟩; exact ⟨h, rfl⟩
  · rintro ⟨h, rfl⟩; exact ⟨_, ⟨h, rfl⟩, rfl⟩

theorem loadInd_eq_ok {p : Ind} {s t : State} :
    loadInd p s = .ok t ↔ (indAddr s p).toNat < s.cfg.memSize ∧
      t = indUpdate (s.setA (Memory.read s.mem (indAddr s p).toNat)) p := by
  simp only [loadInd, bind_eq_ok, readByte_eq_ok, Except.ok.injEq]
  constructor
  · rintro ⟨v, ⟨h, rfl⟩, rfl⟩; exact ⟨h, rfl⟩
  · rintro ⟨h, rfl⟩; exact ⟨_, ⟨h, rfl⟩, rfl⟩

theorem loadA_eq_ok {a : Word} {s t : State} :
    loadA a s = .ok t ↔ a.toNat < s.cfg.memSize ∧ t = s.setA (Memory.read s.mem a.toNat) := by
  simp only [loadA, bind_eq_ok, readByte_eq_ok, Except.ok.injEq]
  constructor
  · rintro ⟨v, ⟨h, rfl⟩, rfl⟩; exact ⟨h, rfl⟩
  · rintro ⟨h, rfl⟩; exact ⟨_, ⟨h, rfl⟩, rfl⟩

theorem writeWord_eq_ok {a v : Word} {s t : State} :
    writeWord s a v = .ok t ↔ a.toNat < s.cfg.memSize ∧ (a + 1).toNat < s.cfg.memSize ∧
      t = { s with mem := Memory.write (Memory.write s.mem a.toNat (loByte v)) (a + 1).toNat (hiByte v) } := by
  simp only [writeWord, bind_eq_ok, writeByte_eq_ok]
  constructor
  · rintro ⟨u, ⟨h, rfl⟩, h2, rfl⟩; exact ⟨h, h2, rfl⟩
  · rintro ⟨h, h2, rfl⟩; exact ⟨_, ⟨h, rfl⟩, h2, rfl⟩

theorem popQQ_eq_ok {q : QQ} {s t : State} :
    popQQ q s = .ok t ↔ s.sp.toNat < s.cfg.memSize ∧ (s.sp + 1).toNat < s.cfg.memSize ∧
      t = writeQQ { s with sp := s.sp + 1 + 1 } q
        (joinBytes (Memory.read s.mem (s.sp + 1).toNat) (Memory.read s.mem s.sp.toNat)) := by
  simp only [popQQ, bind_eq_ok, Prod.exists, pop16_eq_ok, Except.ok.injEq]
  constructor
  · rintro ⟨v, u, ⟨h, h2, rfl, rfl⟩, rfl⟩; exact ⟨h, h2, rfl⟩
  · rintro ⟨h, h2, rfl⟩; exact ⟨_, _, ⟨h, h2, rfl, rfl⟩, rfl⟩

/-! ## Control transfer -/

theorem call_eq_ok {a : Word} {s t : State} :
    call a s = .ok t ↔ (s.sp - 1).toNat < s.cfg.memSize ∧ (s.sp - 1 - 1).toNat < s.cfg.memSize ∧
      t = { s with
        pc := a
        sp := s.sp - 1 - 1
        mem := Memory.write (Memory.write s.mem (s.sp - 1).toNat (hiByte s.pc)) (s.sp - 1 - 1).toNat (loByte s.pc) } := by
  simp only [call, bind_eq_ok, push16_eq_ok, Except.ok.injEq]
  constructor
  · rintro ⟨u, ⟨h, h2, rfl⟩, rfl⟩; exact ⟨h, h2, rfl⟩
  · rintro ⟨h, h2, rfl⟩; exact ⟨_, ⟨h, h2, rfl⟩, rfl⟩

theorem ret_eq_ok {s t : State} :
    ret s = .ok t ↔ s.sp.toNat < s.cfg.memSize ∧ (s.sp + 1).toNat < s.cfg.memSize ∧
      t = { s with
        sp := s.sp + 1 + 1
        pc := joinBytes (Memory.read s.mem (s.sp + 1).toNat) (Memory.read s.mem s.sp.toNat) } := by
  simp only [ret, bind_eq_ok, Prod.exists, pop16_eq_ok, Except.ok.injEq]
  constructor
  · rintro ⟨v, u, ⟨h, h2, rfl, rfl⟩, rfl⟩; exact ⟨h, h2, rfl⟩
  · rintro ⟨h, h2, rfl⟩; exact ⟨_, _, ⟨h, h2, rfl, rfl⟩, rfl⟩

theorem retInterrupt_eq_ok {s t : State} :
    retInterrupt s = .ok t ↔ ∃ u, ret s = .ok u ∧ t = { u with ime := true } := by
  simp only [retInterrupt, bind_eq_ok, Except.ok.injEq, eq_comm (a := t)]

theorem whenCond_eq_ok {k : Cond} {x : State → Except Fault State} {s t : State} :
    whenCond k x s = .ok t ↔ (condHolds s k = true ∧ x s = .ok t) ∨ (condHolds s k = false ∧ t = s) := by
  unfold whenCond; cases condHolds s k <;> simp [eq_comm]

end Sys2Proof.Machine
end

