-- ==== Sys2Proof/Laws/PerInstr.lean ====
section
/-! SUPPORT. Facts about every row as syntax, one lemma per constructor. -/

namespace Sys2Proof.Laws

/-- R54: a row's encoding begins with an opcode byte whose value alone gives the encoding's length. -/
def EncodedLength.Statement (i : Instr) : Prop :=
  (encode i).length = instrLength ((encode i).headD 0) ∧ 1 ≤ (encode i).length ∧ (encode i).length ≤ 3

/-- The statement from the length and the opcode byte, a closed computation. -/
theorem encodedLength_of {i : Instr} (len : Nat) (op : Byte) (hlen : (encode i).length = len)
    (hop : (encode i).headD 0 = op) (h : len = instrLength op ∧ 1 ≤ len ∧ len ≤ 3) : EncodedLength.Statement i := by
  subst hlen hop; exact h

theorem EncodedLength.incB : EncodedLength.Statement .incB := encodedLength_of 1 0x04 rfl rfl (by decide)
theorem EncodedLength.incC : EncodedLength.Statement .incC := encodedLength_of 1 0x0C rfl rfl (by decide)
theorem EncodedLength.incD : EncodedLength.Statement .incD := encodedLength_of 1 0x14 rfl rfl (by decide)
theorem EncodedLength.incE : EncodedLength.Statement .incE := encodedLength_of 1 0x1C rfl rfl (by decide)
theorem EncodedLength.incH : EncodedLength.Statement .incH := encodedLength_of 1 0x24 rfl rfl (by decide)
theorem EncodedLength.incL : EncodedLength.Statement .incL := encodedLength_of 1 0x2C rfl rfl (by decide)
theorem EncodedLength.incA : EncodedLength.Statement .incA := encodedLength_of 1 0x3C rfl rfl (by decide)
theorem EncodedLength.incAtHL : EncodedLength.Statement .incAtHL := encodedLength_of 1 0x34 rfl rfl (by decide)
theorem EncodedLength.decB : EncodedLength.Statement .decB := encodedLength_of 1 0x05 rfl rfl (by decide)
theorem EncodedLength.decC : EncodedLength.Statement .decC := encodedLength_of 1 0x0D rfl rfl (by decide)
theorem EncodedLength.decD : EncodedLength.Statement .decD := encodedLength_of 1 0x15 rfl rfl (by decide)
theorem EncodedLength.decE : EncodedLength.Statement .decE := encodedLength_of 1 0x1D rfl rfl (by decide)
theorem EncodedLength.decH : EncodedLength.Statement .decH := encodedLength_of 1 0x25 rfl rfl (by decide)
theorem EncodedLength.decL : EncodedLength.Statement .decL := encodedLength_of 1 0x2D rfl rfl (by decide)
theorem EncodedLength.decA : EncodedLength.Statement .decA := encodedLength_of 1 0x3D rfl rfl (by decide)
theorem EncodedLength.decAtHL : EncodedLength.Statement .decAtHL := encodedLength_of 1 0x35 rfl rfl (by decide)
theorem EncodedLength.incBC : EncodedLength.Statement .incBC := encodedLength_of 1 0x03 rfl rfl (by decide)
theorem EncodedLength.incDE : EncodedLength.Statement .incDE := encodedLength_of 1 0x13 rfl rfl (by decide)
theorem EncodedLength.incHL : EncodedLength.Statement .incHL := encodedLength_of 1 0x23 rfl rfl (by decide)
theorem EncodedLength.incSP : EncodedLength.Statement .incSP := encodedLength_of 1 0x33 rfl rfl (by decide)
theorem EncodedLength.decBC : EncodedLength.Statement .decBC := encodedLength_of 1 0x0B rfl rfl (by decide)
theorem EncodedLength.decDE : EncodedLength.Statement .decDE := encodedLength_of 1 0x1B rfl rfl (by decide)
theorem EncodedLength.decHL : EncodedLength.Statement .decHL := encodedLength_of 1 0x2B rfl rfl (by decide)
theorem EncodedLength.decSP : EncodedLength.Statement .decSP := encodedLength_of 1 0x3B rfl rfl (by decide)
theorem EncodedLength.addA_B : EncodedLength.Statement .addA_B := encodedLength_of 1 0x80 rfl rfl (by decide)
theorem EncodedLength.addA_C : EncodedLength.Statement .addA_C := encodedLength_of 1 0x81 rfl rfl (by decide)
theorem EncodedLength.addA_D : EncodedLength.Statement .addA_D := encodedLength_of 1 0x82 rfl rfl (by decide)
theorem EncodedLength.addA_E : EncodedLength.Statement .addA_E := encodedLength_of 1 0x83 rfl rfl (by decide)
theorem EncodedLength.addA_H : EncodedLength.Statement .addA_H := encodedLength_of 1 0x84 rfl rfl (by decide)
theorem EncodedLength.addA_L : EncodedLength.Statement .addA_L := encodedLength_of 1 0x85 rfl rfl (by decide)
theorem EncodedLength.addA_atHL : EncodedLength.Statement .addA_atHL := encodedLength_of 1 0x86 rfl rfl (by decide)
theorem EncodedLength.addA_A : EncodedLength.Statement .addA_A := encodedLength_of 1 0x87 rfl rfl (by decide)
theorem EncodedLength.addA_d8 (n : Byte) : EncodedLength.Statement (.addA_d8 n) := encodedLength_of 2 0xC6 rfl rfl (by decide)
theorem EncodedLength.adcA_B : EncodedLength.Statement .adcA_B := encodedLength_of 1 0x88 rfl rfl (by decide)
theorem EncodedLength.adcA_C : EncodedLength.Statement .adcA_C := encodedLength_of 1 0x89 rfl rfl (by decide)
theorem EncodedLength.adcA_D : EncodedLength.Statement .adcA_D := encodedLength_of 1 0x8A rfl rfl (by decide)
theorem EncodedLength.adcA_E : EncodedLength.Statement .adcA_E := encodedLength_of 1 0x8B rfl rfl (by decide)
theorem EncodedLength.adcA_H : EncodedLength.Statement .adcA_H := encodedLength_of 1 0x8C rfl rfl (by decide)
theorem EncodedLength.adcA_L : EncodedLength.Statement .adcA_L := encodedLength_of 1 0x8D rfl rfl (by decide)
theorem EncodedLength.adcA_atHL : EncodedLength.Statement .adcA_atHL := encodedLength_of 1 0x8E rfl rfl (by decide)
theorem EncodedLength.adcA_A : EncodedLength.Statement .adcA_A := encodedLength_of 1 0x8F rfl rfl (by decide)
theorem EncodedLength.adcA_d8 (n : Byte) : EncodedLength.Statement (.adcA_d8 n) := encodedLength_of 2 0xCE rfl rfl (by decide)
theorem EncodedLength.subA_B : EncodedLength.Statement .subA_B := encodedLength_of 1 0x90 rfl rfl (by decide)
theorem EncodedLength.subA_C : EncodedLength.Statement .subA_C := encodedLength_of 1 0x91 rfl rfl (by decide)
theorem EncodedLength.subA_D : EncodedLength.Statement .subA_D := encodedLength_of 1 0x92 rfl rfl (by decide)
theorem EncodedLength.subA_E : EncodedLength.Statement .subA_E := encodedLength_of 1 0x93 rfl rfl (by decide)
theorem EncodedLength.subA_H : EncodedLength.Statement .subA_H := encodedLength_of 1 0x94 rfl rfl (by decide)
theorem EncodedLength.subA_L : EncodedLength.Statement .subA_L := encodedLength_of 1 0x95 rfl rfl (by decide)
theorem EncodedLength.subA_atHL : EncodedLength.Statement .subA_atHL := encodedLength_of 1 0x96 rfl rfl (by decide)
theorem EncodedLength.subA_A : EncodedLength.Statement .subA_A := encodedLength_of 1 0x97 rfl rfl (by decide)
theorem EncodedLength.subA_d8 (n : Byte) : EncodedLength.Statement (.subA_d8 n) := encodedLength_of 2 0xD6 rfl rfl (by decide)
theorem EncodedLength.sbcA_B : EncodedLength.Statement .sbcA_B := encodedLength_of 1 0x98 rfl rfl (by decide)
theorem EncodedLength.sbcA_C : EncodedLength.Statement .sbcA_C := encodedLength_of 1 0x99 rfl rfl (by decide)
theorem EncodedLength.sbcA_D : EncodedLength.Statement .sbcA_D := encodedLength_of 1 0x9A rfl rfl (by decide)
theorem EncodedLength.sbcA_E : EncodedLength.Statement .sbcA_E := encodedLength_of 1 0x9B rfl rfl (by decide)
theorem EncodedLength.sbcA_H : EncodedLength.Statement .sbcA_H := encodedLength_of 1 0x9C rfl rfl (by decide)
theorem EncodedLength.sbcA_L : EncodedLength.Statement .sbcA_L := encodedLength_of 1 0x9D rfl rfl (by decide)
theorem EncodedLength.sbcA_atHL : EncodedLength.Statement .sbcA_atHL := encodedLength_of 1 0x9E rfl rfl (by decide)
theorem EncodedLength.sbcA_A : EncodedLength.Statement .sbcA_A := encodedLength_of 1 0x9F rfl rfl (by decide)
theorem EncodedLength.sbcA_d8 (n : Byte) : EncodedLength.Statement (.sbcA_d8 n) := encodedLength_of 2 0xDE rfl rfl (by decide)
theorem EncodedLength.andA_B : EncodedLength.Statement .andA_B := encodedLength_of 1 0xA0 rfl rfl (by decide)
theorem EncodedLength.andA_C : EncodedLength.Statement .andA_C := encodedLength_of 1 0xA1 rfl rfl (by decide)
theorem EncodedLength.andA_D : EncodedLength.Statement .andA_D := encodedLength_of 1 0xA2 rfl rfl (by decide)
theorem EncodedLength.andA_E : EncodedLength.Statement .andA_E := encodedLength_of 1 0xA3 rfl rfl (by decide)
theorem EncodedLength.andA_H : EncodedLength.Statement .andA_H := encodedLength_of 1 0xA4 rfl rfl (by decide)
theorem EncodedLength.andA_L : EncodedLength.Statement .andA_L := encodedLength_of 1 0xA5 rfl rfl (by decide)
theorem EncodedLength.andA_atHL : EncodedLength.Statement .andA_atHL := encodedLength_of 1 0xA6 rfl rfl (by decide)
theorem EncodedLength.andA_A : EncodedLength.Statement .andA_A := encodedLength_of 1 0xA7 rfl rfl (by decide)
theorem EncodedLength.andA_d8 (n : Byte) : EncodedLength.Statement (.andA_d8 n) := encodedLength_of 2 0xE6 rfl rfl (by decide)
theorem EncodedLength.xorA_B : EncodedLength.Statement .xorA_B := encodedLength_of 1 0xA8 rfl rfl (by decide)
theorem EncodedLength.xorA_C : EncodedLength.Statement .xorA_C := encodedLength_of 1 0xA9 rfl rfl (by decide)
theorem EncodedLength.xorA_D : EncodedLength.Statement .xorA_D := encodedLength_of 1 0xAA rfl rfl (by decide)
theorem EncodedLength.xorA_E : EncodedLength.Statement .xorA_E := encodedLength_of 1 0xAB rfl rfl (by decide)
theorem EncodedLength.xorA_H : EncodedLength.Statement .xorA_H := encodedLength_of 1 0xAC rfl rfl (by decide)
theorem EncodedLength.xorA_L : EncodedLength.Statement .xorA_L := encodedLength_of 1 0xAD rfl rfl (by decide)
theorem EncodedLength.xorA_atHL : EncodedLength.Statement .xorA_atHL := encodedLength_of 1 0xAE rfl rfl (by decide)
theorem EncodedLength.xorA_A : EncodedLength.Statement .xorA_A := encodedLength_of 1 0xAF rfl rfl (by decide)
theorem EncodedLength.xorA_d8 (n : Byte) : EncodedLength.Statement (.xorA_d8 n) := encodedLength_of 2 0xEE rfl rfl (by decide)
theorem EncodedLength.orA_B : EncodedLength.Statement .orA_B := encodedLength_of 1 0xB0 rfl rfl (by decide)
theorem EncodedLength.orA_C : EncodedLength.Statement .orA_C := encodedLength_of 1 0xB1 rfl rfl (by decide)
theorem EncodedLength.orA_D : EncodedLength.Statement .orA_D := encodedLength_of 1 0xB2 rfl rfl (by decide)
theorem EncodedLength.orA_E : EncodedLength.Statement .orA_E := encodedLength_of 1 0xB3 rfl rfl (by decide)
theorem EncodedLength.orA_H : EncodedLength.Statement .orA_H := encodedLength_of 1 0xB4 rfl rfl (by decide)
theorem EncodedLength.orA_L : EncodedLength.Statement .orA_L := encodedLength_of 1 0xB5 rfl rfl (by decide)
theorem EncodedLength.orA_atHL : EncodedLength.Statement .orA_atHL := encodedLength_of 1 0xB6 rfl rfl (by decide)
theorem EncodedLength.orA_A : EncodedLength.Statement .orA_A := encodedLength_of 1 0xB7 rfl rfl (by decide)
theorem EncodedLength.orA_d8 (n : Byte) : EncodedLength.Statement (.orA_d8 n) := encodedLength_of 2 0xF6 rfl rfl (by decide)
theorem EncodedLength.cpA_B : EncodedLength.Statement .cpA_B := encodedLength_of 1 0xB8 rfl rfl (by decide)
theorem EncodedLength.cpA_C : EncodedLength.Statement .cpA_C := encodedLength_of 1 0xB9 rfl rfl (by decide)
theorem EncodedLength.cpA_D : EncodedLength.Statement .cpA_D := encodedLength_of 1 0xBA rfl rfl (by decide)
theorem EncodedLength.cpA_E : EncodedLength.Statement .cpA_E := encodedLength_of 1 0xBB rfl rfl (by decide)
theorem EncodedLength.cpA_H : EncodedLength.Statement .cpA_H := encodedLength_of 1 0xBC rfl rfl (by decide)
theorem EncodedLength.cpA_L : EncodedLength.Statement .cpA_L := encodedLength_of 1 0xBD rfl rfl (by decide)
theorem EncodedLength.cpA_atHL : EncodedLength.Statement .cpA_atHL := encodedLength_of 1 0xBE rfl rfl (by decide)
theorem EncodedLength.cpA_A : EncodedLength.Statement .cpA_A := encodedLength_of 1 0xBF rfl rfl (by decide)
theorem EncodedLength.cpA_d8 (n : Byte) : EncodedLength.Statement (.cpA_d8 n) := encodedLength_of 2 0xFE rfl rfl (by decide)
theorem EncodedLength.addHL_BC : EncodedLength.Statement .addHL_BC := encodedLength_of 1 0x09 rfl rfl (by decide)
theorem EncodedLength.addHL_DE : EncodedLength.Statement .addHL_DE := encodedLength_of 1 0x19 rfl rfl (by decide)
theorem EncodedLength.addHL_HL : EncodedLength.Statement .addHL_HL := encodedLength_of 1 0x29 rfl rfl (by decide)
theorem EncodedLength.addHL_SP : EncodedLength.Statement .addHL_SP := encodedLength_of 1 0x39 rfl rfl (by decide)
theorem EncodedLength.addSP_e8 (e : Byte) : EncodedLength.Statement (.addSP_e8 e) := encodedLength_of 2 0xE8 rfl rfl (by decide)
theorem EncodedLength.daa : EncodedLength.Statement .daa := encodedLength_of 1 0x27 rfl rfl (by decide)
theorem EncodedLength.cpl : EncodedLength.Statement .cpl := encodedLength_of 1 0x2F rfl rfl (by decide)
theorem EncodedLength.scf : EncodedLength.Statement .scf := encodedLength_of 1 0x37 rfl rfl (by decide)
theorem EncodedLength.ccf : EncodedLength.Statement .ccf := encodedLength_of 1 0x3F rfl rfl (by decide)
theorem EncodedLength.rlca : EncodedLength.Statement .rlca := encodedLength_of 1 0x07 rfl rfl (by decide)
theorem EncodedLength.rla : EncodedLength.Statement .rla := encodedLength_of 1 0x17 rfl rfl (by decide)
theorem EncodedLength.rrca : EncodedLength.Statement .rrca := encodedLength_of 1 0x0F rfl rfl (by decide)
theorem EncodedLength.rra : EncodedLength.Statement .rra := encodedLength_of 1 0x1F rfl rfl (by decide)
theorem EncodedLength.rlc_B : EncodedLength.Statement .rlc_B := encodedLength_of 2 0xCB rfl rfl (by decide)
theorem EncodedLength.rlc_C : EncodedLength.Statement .rlc_C := encodedLength_of 2 0xCB rfl rfl (by decide)
theorem EncodedLength.rlc_D : EncodedLength.Statement .rlc_D := encodedLength_of 2 0xCB rfl rfl (by decide)
theorem EncodedLength.rlc_E : EncodedLength.Statement .rlc_E := encodedLength_of 2 0xCB rfl rfl (by decide)
theorem EncodedLength.rlc_H : EncodedLength.Statement .rlc_H := encodedLength_of 2 0xCB rfl rfl (by decide)
theorem EncodedLength.rlc_L : EncodedLength.Statement .rlc_L := encodedLength_of 2 0xCB rfl rfl (by decide)
theorem EncodedLength.rlc_A : EncodedLength.Statement .rlc_A := encodedLength_of 2 0xCB rfl rfl (by decide)
theorem EncodedLength.rlc_atHL : EncodedLength.Statement .rlc_atHL := encodedLength_of 2 0xCB rfl rfl (by decide)
theorem EncodedLength.rrc_B : EncodedLength.Statement .rrc_B := encodedLength_of 2 0xCB rfl rfl (by decide)
theorem EncodedLength.rrc_C : EncodedLength.Statement .rrc_C := encodedLength_of 2 0xCB rfl rfl (by decide)
theorem EncodedLength.rrc_D : EncodedLength.Statement .rrc_D := encodedLength_of 2 0xCB rfl rfl (by decide)
theorem EncodedLength.rrc_E : EncodedLength.Statement .rrc_E := encodedLength_of 2 0xCB rfl rfl (by decide)
theorem EncodedLength.rrc_H : EncodedLength.Statement .rrc_H := encodedLength_of 2 0xCB rfl rfl (by decide)
theorem EncodedLength.rrc_L : EncodedLength.Statement .rrc_L := encodedLength_of 2 0xCB rfl rfl (by decide)
theorem EncodedLength.rrc_A : EncodedLength.Statement .rrc_A := encodedLength_of 2 0xCB rfl rfl (by decide)
theorem EncodedLength.rrc_atHL : EncodedLength.Statement .rrc_atHL := encodedLength_of 2 0xCB rfl rfl (by decide)
theorem EncodedLength.rl_B : EncodedLength.Statement .rl_B := encodedLength_of 2 0xCB rfl rfl (by decide)
theorem EncodedLength.rl_C : EncodedLength.Statement .rl_C := encodedLength_of 2 0xCB rfl rfl (by decide)
theorem EncodedLength.rl_D : EncodedLength.Statement .rl_D := encodedLength_of 2 0xCB rfl rfl (by decide)
theorem EncodedLength.rl_E : EncodedLength.Statement .rl_E := encodedLength_of 2 0xCB rfl rfl (by decide)
theorem EncodedLength.rl_H : EncodedLength.Statement .rl_H := encodedLength_of 2 0xCB rfl rfl (by decide)
theorem EncodedLength.rl_L : EncodedLength.Statement .rl_L := encodedLength_of 2 0xCB rfl rfl (by decide)
theorem EncodedLength.rl_A : EncodedLength.Statement .rl_A := encodedLength_of 2 0xCB rfl rfl (by decide)
theorem EncodedLength.rl_atHL : EncodedLength.Statement .rl_atHL := encodedLength_of 2 0xCB rfl rfl (by decide)
theorem EncodedLength.rr_B : EncodedLength.Statement .rr_B := encodedLength_of 2 0xCB rfl rfl (by decide)
theorem EncodedLength.rr_C : EncodedLength.Statement .rr_C := encodedLength_of 2 0xCB rfl rfl (by decide)
theorem EncodedLength.rr_D : EncodedLength.Statement .rr_D := encodedLength_of 2 0xCB rfl rfl (by decide)
theorem EncodedLength.rr_E : EncodedLength.Statement .rr_E := encodedLength_of 2 0xCB rfl rfl (by decide)
theorem EncodedLength.rr_H : EncodedLength.Statement .rr_H := encodedLength_of 2 0xCB rfl rfl (by decide)
theorem EncodedLength.rr_L : EncodedLength.Statement .rr_L := encodedLength_of 2 0xCB rfl rfl (by decide)
theorem EncodedLength.rr_A : EncodedLength.Statement .rr_A := encodedLength_of 2 0xCB rfl rfl (by decide)
theorem EncodedLength.rr_atHL : EncodedLength.Statement .rr_atHL := encodedLength_of 2 0xCB rfl rfl (by decide)
theorem EncodedLength.sla_B : EncodedLength.Statement .sla_B := encodedLength_of 2 0xCB rfl rfl (by decide)
theorem EncodedLength.sla_C : EncodedLength.Statement .sla_C := encodedLength_of 2 0xCB rfl rfl (by decide)
theorem EncodedLength.sla_D : EncodedLength.Statement .sla_D := encodedLength_of 2 0xCB rfl rfl (by decide)
theorem EncodedLength.sla_E : EncodedLength.Statement .sla_E := encodedLength_of 2 0xCB rfl rfl (by decide)
theorem EncodedLength.sla_H : EncodedLength.Statement .sla_H := encodedLength_of 2 0xCB rfl rfl (by decide)
theorem EncodedLength.sla_L : EncodedLength.Statement .sla_L := encodedLength_of 2 0xCB rfl rfl (by decide)
theorem EncodedLength.sla_A : EncodedLength.Statement .sla_A := encodedLength_of 2 0xCB rfl rfl (by decide)
theorem EncodedLength.sla_atHL : EncodedLength.Statement .sla_atHL := encodedLength_of 2 0xCB rfl rfl (by decide)
theorem EncodedLength.sra_B : EncodedLength.Statement .sra_B := encodedLength_of 2 0xCB rfl rfl (by decide)
theorem EncodedLength.sra_C : EncodedLength.Statement .sra_C := encodedLength_of 2 0xCB rfl rfl (by decide)
theorem EncodedLength.sra_D : EncodedLength.Statement .sra_D := encodedLength_of 2 0xCB rfl rfl (by decide)
theorem EncodedLength.sra_E : EncodedLength.Statement .sra_E := encodedLength_of 2 0xCB rfl rfl (by decide)
theorem EncodedLength.sra_H : EncodedLength.Statement .sra_H := encodedLength_of 2 0xCB rfl rfl (by decide)
theorem EncodedLength.sra_L : EncodedLength.Statement .sra_L := encodedLength_of 2 0xCB rfl rfl (by decide)
theorem EncodedLength.sra_A : EncodedLength.Statement .sra_A := encodedLength_of 2 0xCB rfl rfl (by decide)
theorem EncodedLength.sra_atHL : EncodedLength.Statement .sra_atHL := encodedLength_of 2 0xCB rfl rfl (by decide)
theorem EncodedLength.srl_B : EncodedLength.Statement .srl_B := encodedLength_of 2 0xCB rfl rfl (by decide)
theorem EncodedLength.srl_C : EncodedLength.Statement .srl_C := encodedLength_of 2 0xCB rfl rfl (by decide)
theorem EncodedLength.srl_D : EncodedLength.Statement .srl_D := encodedLength_of 2 0xCB rfl rfl (by decide)
theorem EncodedLength.srl_E : EncodedLength.Statement .srl_E := encodedLength_of 2 0xCB rfl rfl (by decide)
theorem EncodedLength.srl_H : EncodedLength.Statement .srl_H := encodedLength_of 2 0xCB rfl rfl (by decide)
theorem EncodedLength.srl_L : EncodedLength.Statement .srl_L := encodedLength_of 2 0xCB rfl rfl (by decide)
theorem EncodedLength.srl_A : EncodedLength.Statement .srl_A := encodedLength_of 2 0xCB rfl rfl (by decide)
theorem EncodedLength.srl_atHL : EncodedLength.Statement .srl_atHL := encodedLength_of 2 0xCB rfl rfl (by decide)
theorem EncodedLength.swap_B : EncodedLength.Statement .swap_B := encodedLength_of 2 0xCB rfl rfl (by decide)
theorem EncodedLength.swap_C : EncodedLength.Statement .swap_C := encodedLength_of 2 0xCB rfl rfl (by decide)
theorem EncodedLength.swap_D : EncodedLength.Statement .swap_D := encodedLength_of 2 0xCB rfl rfl (by decide)
theorem EncodedLength.swap_E : EncodedLength.Statement .swap_E := encodedLength_of 2 0xCB rfl rfl (by decide)
theorem EncodedLength.swap_H : EncodedLength.Statement .swap_H := encodedLength_of 2 0xCB rfl rfl (by decide)
theorem EncodedLength.swap_L : EncodedLength.Statement .swap_L := encodedLength_of 2 0xCB rfl rfl (by decide)
theorem EncodedLength.swap_A : EncodedLength.Statement .swap_A := encodedLength_of 2 0xCB rfl rfl (by decide)
theorem EncodedLength.swap_atHL : EncodedLength.Statement .swap_atHL := encodedLength_of 2 0xCB rfl rfl (by decide)
theorem EncodedLength.bit0_B : EncodedLength.Statement .bit0_B := encodedLength_of 2 0xCB rfl rfl (by decide)
theorem EncodedLength.bit0_C : EncodedLength.Statement .bit0_C := encodedLength_of 2 0xCB rfl rfl (by decide)
theorem EncodedLength.bit0_D : EncodedLength.Statement .bit0_D := encodedLength_of 2 0xCB rfl rfl (by decide)
theorem EncodedLength.bit0_E : EncodedLength.Statement .bit0_E := encodedLength_of 2 0xCB rfl rfl (by decide)
theorem EncodedLength.bit0_H : EncodedLength.Statement .bit0_H := encodedLength_of 2 0xCB rfl rfl (by decide)
theorem EncodedLength.bit0_L : EncodedLength.Statement .bit0_L := encodedLength_of 2 0xCB rfl rfl (by decide)
theorem EncodedLength.bit0_A : EncodedLength.Statement .bit0_A := encodedLength_of 2 0xCB rfl rfl (by decide)
theorem EncodedLength.bit1_B : EncodedLength.Statement .bit1_B := encodedLength_of 2 0xCB rfl rfl (by decide)
theorem EncodedLength.bit1_C : EncodedLength.Statement .bit1_C := encodedLength_of 2 0xCB rfl rfl (by decide)
theorem EncodedLength.bit1_D : EncodedLength.Statement .bit1_D := encodedLength_of 2 0xCB rfl rfl (by decide)
theorem EncodedLength.bit1_E : EncodedLength.Statement .bit1_E := encodedLength_of 2 0xCB rfl rfl (by decide)
theorem EncodedLength.bit1_H : EncodedLength.Statement .bit1_H := encodedLength_of 2 0xCB rfl rfl (by decide)
theorem EncodedLength.bit1_L : EncodedLength.Statement .bit1_L := encodedLength_of 2 0xCB rfl rfl (by decide)
theorem EncodedLength.bit1_A : EncodedLength.Statement .bit1_A := encodedLength_of 2 0xCB rfl rfl (by decide)
theorem EncodedLength.bit2_B : EncodedLength.Statement .bit2_B := encodedLength_of 2 0xCB rfl rfl (by decide)
theorem EncodedLength.bit2_C : EncodedLength.Statement .bit2_C := encodedLength_of 2 0xCB rfl rfl (by decide)
theorem EncodedLength.bit2_D : EncodedLength.Statement .bit2_D := encodedLength_of 2 0xCB rfl rfl (by decide)
theorem EncodedLength.bit2_E : EncodedLength.Statement .bit2_E := encodedLength_of 2 0xCB rfl rfl (by decide)
theorem EncodedLength.bit2_H : EncodedLength.Statement .bit2_H := encodedLength_of 2 0xCB rfl rfl (by decide)
theorem EncodedLength.bit2_L : EncodedLength.Statement .bit2_L := encodedLength_of 2 0xCB rfl rfl (by decide)
theorem EncodedLength.bit2_A : EncodedLength.Statement .bit2_A := encodedLength_of 2 0xCB rfl rfl (by decide)
theorem EncodedLength.bit3_B : EncodedLength.Statement .bit3_B := encodedLength_of 2 0xCB rfl rfl (by decide)
theorem EncodedLength.bit3_C : EncodedLength.Statement .bit3_C := encodedLength_of 2 0xCB rfl rfl (by decide)
theorem EncodedLength.bit3_D : EncodedLength.Statement .bit3_D := encodedLength_of 2 0xCB rfl rfl (by decide)
theorem EncodedLength.bit3_E : EncodedLength.Statement .bit3_E := encodedLength_of 2 0xCB rfl rfl (by decide)
theorem EncodedLength.bit3_H : EncodedLength.Statement .bit3_H := encodedLength_of 2 0xCB rfl rfl (by decide)
theorem EncodedLength.bit3_L : EncodedLength.Statement .bit3_L := encodedLength_of 2 0xCB rfl rfl (by decide)
theorem EncodedLength.bit3_A : EncodedLength.Statement .bit3_A := encodedLength_of 2 0xCB rfl rfl (by decide)
theorem EncodedLength.bit4_B : EncodedLength.Statement .bit4_B := encodedLength_of 2 0xCB rfl rfl (by decide)
theorem EncodedLength.bit4_C : EncodedLength.Statement .bit4_C := encodedLength_of 2 0xCB rfl rfl (by decide)
theorem EncodedLength.bit4_D : EncodedLength.Statement .bit4_D := encodedLength_of 2 0xCB rfl rfl (by decide)
theorem EncodedLength.bit4_E : EncodedLength.Statement .bit4_E := encodedLength_of 2 0xCB rfl rfl (by decide)
theorem EncodedLength.bit4_H : EncodedLength.Statement .bit4_H := encodedLength_of 2 0xCB rfl rfl (by decide)
theorem EncodedLength.bit4_L : EncodedLength.Statement .bit4_L := encodedLength_of 2 0xCB rfl rfl (by decide)
theorem EncodedLength.bit4_A : EncodedLength.Statement .bit4_A := encodedLength_of 2 0xCB rfl rfl (by decide)
theorem EncodedLength.bit5_B : EncodedLength.Statement .bit5_B := encodedLength_of 2 0xCB rfl rfl (by decide)
theorem EncodedLength.bit5_C : EncodedLength.Statement .bit5_C := encodedLength_of 2 0xCB rfl rfl (by decide)
theorem EncodedLength.bit5_D : EncodedLength.Statement .bit5_D := encodedLength_of 2 0xCB rfl rfl (by decide)
theorem EncodedLength.bit5_E : EncodedLength.Statement .bit5_E := encodedLength_of 2 0xCB rfl rfl (by decide)
theorem EncodedLength.bit5_H : EncodedLength.Statement .bit5_H := encodedLength_of 2 0xCB rfl rfl (by decide)
theorem EncodedLength.bit5_L : EncodedLength.Statement .bit5_L := encodedLength_of 2 0xCB rfl rfl (by decide)
theorem EncodedLength.bit5_A : EncodedLength.Statement .bit5_A := encodedLength_of 2 0xCB rfl rfl (by decide)
theorem EncodedLength.bit6_B : EncodedLength.Statement .bit6_B := encodedLength_of 2 0xCB rfl rfl (by decide)
theorem EncodedLength.bit6_C : EncodedLength.Statement .bit6_C := encodedLength_of 2 0xCB rfl rfl (by decide)
theorem EncodedLength.bit6_D : EncodedLength.Statement .bit6_D := encodedLength_of 2 0xCB rfl rfl (by decide)
theorem EncodedLength.bit6_E : EncodedLength.Statement .bit6_E := encodedLength_of 2 0xCB rfl rfl (by decide)
theorem EncodedLength.bit6_H : EncodedLength.Statement .bit6_H := encodedLength_of 2 0xCB rfl rfl (by decide)
theorem EncodedLength.bit6_L : EncodedLength.Statement .bit6_L := encodedLength_of 2 0xCB rfl rfl (by decide)
theorem EncodedLength.bit6_A : EncodedLength.Statement .bit6_A := encodedLength_of 2 0xCB rfl rfl (by decide)
theorem EncodedLength.bit7_B : EncodedLength.Statement .bit7_B := encodedLength_of 2 0xCB rfl rfl (by decide)
theorem EncodedLength.bit7_C : EncodedLength.Statement .bit7_C := encodedLength_of 2 0xCB rfl rfl (by decide)
theorem EncodedLength.bit7_D : EncodedLength.Statement .bit7_D := encodedLength_of 2 0xCB rfl rfl (by decide)
theorem EncodedLength.bit7_E : EncodedLength.Statement .bit7_E := encodedLength_of 2 0xCB rfl rfl (by decide)
theorem EncodedLength.bit7_H : EncodedLength.Statement .bit7_H := encodedLength_of 2 0xCB rfl rfl (by decide)
theorem EncodedLength.bit7_L : EncodedLength.Statement .bit7_L := encodedLength_of 2 0xCB rfl rfl (by decide)
theorem EncodedLength.bit7_A : EncodedLength.Statement .bit7_A := encodedLength_of 2 0xCB rfl rfl (by decide)
theorem EncodedLength.bit0_atHL : EncodedLength.Statement .bit0_atHL := encodedLength_of 2 0xCB rfl rfl (by decide)
theorem EncodedLength.bit1_atHL : EncodedLength.Statement .bit1_atHL := encodedLength_of 2 0xCB rfl rfl (by decide)
theorem EncodedLength.bit2_atHL : EncodedLength.Statement .bit2_atHL := encodedLength_of 2 0xCB rfl rfl (by decide)
theorem EncodedLength.bit3_atHL : EncodedLength.Statement .bit3_atHL := encodedLength_of 2 0xCB rfl rfl (by decide)
theorem EncodedLength.bit4_atHL : EncodedLength.Statement .bit4_atHL := encodedLength_of 2 0xCB rfl rfl (by decide)
theorem EncodedLength.bit5_atHL : EncodedLength.Statement .bit5_atHL := encodedLength_of 2 0xCB rfl rfl (by decide)
theorem EncodedLength.bit6_atHL : EncodedLength.Statement .bit6_atHL := encodedLength_of 2 0xCB rfl rfl (by decide)
theorem EncodedLength.bit7_atHL : EncodedLength.Statement .bit7_atHL := encodedLength_of 2 0xCB rfl rfl (by decide)
theorem EncodedLength.res0_B : EncodedLength.Statement .res0_B := encodedLength_of 2 0xCB rfl rfl (by decide)
theorem EncodedLength.res0_C : EncodedLength.Statement .res0_C := encodedLength_of 2 0xCB rfl rfl (by decide)
theorem EncodedLength.res0_D : EncodedLength.Statement .res0_D := encodedLength_of 2 0xCB rfl rfl (by decide)
theorem EncodedLength.res0_E : EncodedLength.Statement .res0_E := encodedLength_of 2 0xCB rfl rfl (by decide)
theorem EncodedLength.res0_H : EncodedLength.Statement .res0_H := encodedLength_of 2 0xCB rfl rfl (by decide)
theorem EncodedLength.res0_L : EncodedLength.Statement .res0_L := encodedLength_of 2 0xCB rfl rfl (by decide)
theorem EncodedLength.res0_A : EncodedLength.Statement .res0_A := encodedLength_of 2 0xCB rfl rfl (by decide)
theorem EncodedLength.res1_B : EncodedLength.Statement .res1_B := encodedLength_of 2 0xCB rfl rfl (by decide)
theorem EncodedLength.res1_C : EncodedLength.Statement .res1_C := encodedLength_of 2 0xCB rfl rfl (by decide)
theorem EncodedLength.res1_D : EncodedLength.Statement .res1_D := encodedLength_of 2 0xCB rfl rfl (by decide)
theorem EncodedLength.res1_E : EncodedLength.Statement .res1_E := encodedLength_of 2 0xCB rfl rfl (by decide)
theorem EncodedLength.res1_H : EncodedLength.Statement .res1_H := encodedLength_of 2 0xCB rfl rfl (by decide)
theorem EncodedLength.res1_L : EncodedLength.Statement .res1_L := encodedLength_of 2 0xCB rfl rfl (by decide)
theorem EncodedLength.res1_A : EncodedLength.Statement .res1_A := encodedLength_of 2 0xCB rfl rfl (by decide)
theorem EncodedLength.res2_B : EncodedLength.Statement .res2_B := encodedLength_of 2 0xCB rfl rfl (by decide)
theorem EncodedLength.res2_C : EncodedLength.Statement .res2_C := encodedLength_of 2 0xCB rfl rfl (by decide)
theorem EncodedLength.res2_D : EncodedLength.Statement .res2_D := encodedLength_of 2 0xCB rfl rfl (by decide)
theorem EncodedLength.res2_E : EncodedLength.Statement .res2_E := encodedLength_of 2 0xCB rfl rfl (by decide)
theorem EncodedLength.res2_H : EncodedLength.Statement .res2_H := encodedLength_of 2 0xCB rfl rfl (by decide)
theorem EncodedLength.res2_L : EncodedLength.Statement .res2_L := encodedLength_of 2 0xCB rfl rfl (by decide)
theorem EncodedLength.res2_A : EncodedLength.Statement .res2_A := encodedLength_of 2 0xCB rfl rfl (by decide)
theorem EncodedLength.res3_B : EncodedLength.Statement .res3_B := encodedLength_of 2 0xCB rfl rfl (by decide)
theorem EncodedLength.res3_C : EncodedLength.Statement .res3_C := encodedLength_of 2 0xCB rfl rfl (by decide)
theorem EncodedLength.res3_D : EncodedLength.Statement .res3_D := encodedLength_of 2 0xCB rfl rfl (by decide)
theorem EncodedLength.res3_E : EncodedLength.Statement .res3_E := encodedLength_of 2 0xCB rfl rfl (by decide)
theorem EncodedLength.res3_H : EncodedLength.Statement .res3_H := encodedLength_of 2 0xCB rfl rfl (by decide)
theorem EncodedLength.res3_L : EncodedLength.Statement .res3_L := encodedLength_of 2 0xCB rfl rfl (by decide)
theorem EncodedLength.res3_A : EncodedLength.Statement .res3_A := encodedLength_of 2 0xCB rfl rfl (by decide)
theorem EncodedLength.res4_B : EncodedLength.Statement .res4_B := encodedLength_of 2 0xCB rfl rfl (by decide)
theorem EncodedLength.res4_C : EncodedLength.Statement .res4_C := encodedLength_of 2 0xCB rfl rfl (by decide)
theorem EncodedLength.res4_D : EncodedLength.Statement .res4_D := encodedLength_of 2 0xCB rfl rfl (by decide)
theorem EncodedLength.res4_E : EncodedLength.Statement .res4_E := encodedLength_of 2 0xCB rfl rfl (by decide)
theorem EncodedLength.res4_H : EncodedLength.Statement .res4_H := encodedLength_of 2 0xCB rfl rfl (by decide)
theorem EncodedLength.res4_L : EncodedLength.Statement .res4_L := encodedLength_of 2 0xCB rfl rfl (by decide)
theorem EncodedLength.res4_A : EncodedLength.Statement .res4_A := encodedLength_of 2 0xCB rfl rfl (by decide)
theorem EncodedLength.res5_B : EncodedLength.Statement .res5_B := encodedLength_of 2 0xCB rfl rfl (by decide)
theorem EncodedLength.res5_C : EncodedLength.Statement .res5_C := encodedLength_of 2 0xCB rfl rfl (by decide)
theorem EncodedLength.res5_D : EncodedLength.Statement .res5_D := encodedLength_of 2 0xCB rfl rfl (by decide)
theorem EncodedLength.res5_E : EncodedLength.Statement .res5_E := encodedLength_of 2 0xCB rfl rfl (by decide)
theorem EncodedLength.res5_H : EncodedLength.Statement .res5_H := encodedLength_of 2 0xCB rfl rfl (by decide)
theorem EncodedLength.res5_L : EncodedLength.Statement .res5_L := encodedLength_of 2 0xCB rfl rfl (by decide)
theorem EncodedLength.res5_A : EncodedLength.Statement .res5_A := encodedLength_of 2 0xCB rfl rfl (by decide)
theorem EncodedLength.res6_B : EncodedLength.Statement .res6_B := encodedLength_of 2 0xCB rfl rfl (by decide)
theorem EncodedLength.res6_C : EncodedLength.Statement .res6_C := encodedLength_of 2 0xCB rfl rfl (by decide)
theorem EncodedLength.res6_D : EncodedLength.Statement .res6_D := encodedLength_of 2 0xCB rfl rfl (by decide)
theorem EncodedLength.res6_E : EncodedLength.Statement .res6_E := encodedLength_of 2 0xCB rfl rfl (by decide)
theorem EncodedLength.res6_H : EncodedLength.Statement .res6_H := encodedLength_of 2 0xCB rfl rfl (by decide)
theorem EncodedLength.res6_L : EncodedLength.Statement .res6_L := encodedLength_of 2 0xCB rfl rfl (by decide)
theorem EncodedLength.res6_A : EncodedLength.Statement .res6_A := encodedLength_of 2 0xCB rfl rfl (by decide)
theorem EncodedLength.res7_B : EncodedLength.Statement .res7_B := encodedLength_of 2 0xCB rfl rfl (by decide)
theorem EncodedLength.res7_C : EncodedLength.Statement .res7_C := encodedLength_of 2 0xCB rfl rfl (by decide)
theorem EncodedLength.res7_D : EncodedLength.Statement .res7_D := encodedLength_of 2 0xCB rfl rfl (by decide)
theorem EncodedLength.res7_E : EncodedLength.Statement .res7_E := encodedLength_of 2 0xCB rfl rfl (by decide)
theorem EncodedLength.res7_H : EncodedLength.Statement .res7_H := encodedLength_of 2 0xCB rfl rfl (by decide)
theorem EncodedLength.res7_L : EncodedLength.Statement .res7_L := encodedLength_of 2 0xCB rfl rfl (by decide)
theorem EncodedLength.res7_A : EncodedLength.Statement .res7_A := encodedLength_of 2 0xCB rfl rfl (by decide)
theorem EncodedLength.res0_atHL : EncodedLength.Statement .res0_atHL := encodedLength_of 2 0xCB rfl rfl (by decide)
theorem EncodedLength.res1_atHL : EncodedLength.Statement .res1_atHL := encodedLength_of 2 0xCB rfl rfl (by decide)
theorem EncodedLength.res2_atHL : EncodedLength.Statement .res2_atHL := encodedLength_of 2 0xCB rfl rfl (by decide)
theorem EncodedLength.res3_atHL : EncodedLength.Statement .res3_atHL := encodedLength_of 2 0xCB rfl rfl (by decide)
theorem EncodedLength.res4_atHL : EncodedLength.Statement .res4_atHL := encodedLength_of 2 0xCB rfl rfl (by decide)
theorem EncodedLength.res5_atHL : EncodedLength.Statement .res5_atHL := encodedLength_of 2 0xCB rfl rfl (by decide)
theorem EncodedLength.res6_atHL : EncodedLength.Statement .res6_atHL := encodedLength_of 2 0xCB rfl rfl (by decide)
theorem EncodedLength.res7_atHL : EncodedLength.Statement .res7_atHL := encodedLength_of 2 0xCB rfl rfl (by decide)
theorem EncodedLength.set0_B : EncodedLength.Statement .set0_B := encodedLength_of 2 0xCB rfl rfl (by decide)
theorem EncodedLength.set0_C : EncodedLength.Statement .set0_C := encodedLength_of 2 0xCB rfl rfl (by decide)
theorem EncodedLength.set0_D : EncodedLength.Statement .set0_D := encodedLength_of 2 0xCB rfl rfl (by decide)
theorem EncodedLength.set0_E : EncodedLength.Statement .set0_E := encodedLength_of 2 0xCB rfl rfl (by decide)
theorem EncodedLength.set0_H : EncodedLength.Statement .set0_H := encodedLength_of 2 0xCB rfl rfl (by decide)
theorem EncodedLength.set0_L : EncodedLength.Statement .set0_L := encodedLength_of 2 0xCB rfl rfl (by decide)
theorem EncodedLength.set0_A : EncodedLength.Statement .set0_A := encodedLength_of 2 0xCB rfl rfl (by decide)
theorem EncodedLength.set1_B : EncodedLength.Statement .set1_B := encodedLength_of 2 0xCB rfl rfl (by decide)
theorem EncodedLength.set1_C : EncodedLength.Statement .set1_C := encodedLength_of 2 0xCB rfl rfl (by decide)
theorem EncodedLength.set1_D : EncodedLength.Statement .set1_D := encodedLength_of 2 0xCB rfl rfl (by decide)
theorem EncodedLength.set1_E : EncodedLength.Statement .set1_E := encodedLength_of 2 0xCB rfl rfl (by decide)
theorem EncodedLength.set1_H : EncodedLength.Statement .set1_H := encodedLength_of 2 0xCB rfl rfl (by decide)
theorem EncodedLength.set1_L : EncodedLength.Statement .set1_L := encodedLength_of 2 0xCB rfl rfl (by decide)
theorem EncodedLength.set1_A : EncodedLength.Statement .set1_A := encodedLength_of 2 0xCB rfl rfl (by decide)
theorem EncodedLength.set2_B : EncodedLength.Statement .set2_B := encodedLength_of 2 0xCB rfl rfl (by decide)
theorem EncodedLength.set2_C : EncodedLength.Statement .set2_C := encodedLength_of 2 0xCB rfl rfl (by decide)
theorem EncodedLength.set2_D : EncodedLength.Statement .set2_D := encodedLength_of 2 0xCB rfl rfl (by decide)
theorem EncodedLength.set2_E : EncodedLength.Statement .set2_E := encodedLength_of 2 0xCB rfl rfl (by decide)
theorem EncodedLength.set2_H : EncodedLength.Statement .set2_H := encodedLength_of 2 0xCB rfl rfl (by decide)
theorem EncodedLength.set2_L : EncodedLength.Statement .set2_L := encodedLength_of 2 0xCB rfl rfl (by decide)
theorem EncodedLength.set2_A : EncodedLength.Statement .set2_A := encodedLength_of 2 0xCB rfl rfl (by decide)
theorem EncodedLength.set3_B : EncodedLength.Statement .set3_B := encodedLength_of 2 0xCB rfl rfl (by decide)
theorem EncodedLength.set3_C : EncodedLength.Statement .set3_C := encodedLength_of 2 0xCB rfl rfl (by decide)
theorem EncodedLength.set3_D : EncodedLength.Statement .set3_D := encodedLength_of 2 0xCB rfl rfl (by decide)
theorem EncodedLength.set3_E : EncodedLength.Statement .set3_E := encodedLength_of 2 0xCB rfl rfl (by decide)
theorem EncodedLength.set3_H : EncodedLength.Statement .set3_H := encodedLength_of 2 0xCB rfl rfl (by decide)
theorem EncodedLength.set3_L : EncodedLength.Statement .set3_L := encodedLength_of 2 0xCB rfl rfl (by decide)
theorem EncodedLength.set3_A : EncodedLength.Statement .set3_A := encodedLength_of 2 0xCB rfl rfl (by decide)
theorem EncodedLength.set4_B : EncodedLength.Statement .set4_B := encodedLength_of 2 0xCB rfl rfl (by decide)
theorem EncodedLength.set4_C : EncodedLength.Statement .set4_C := encodedLength_of 2 0xCB rfl rfl (by decide)
theorem EncodedLength.set4_D : EncodedLength.Statement .set4_D := encodedLength_of 2 0xCB rfl rfl (by decide)
theorem EncodedLength.set4_E : EncodedLength.Statement .set4_E := encodedLength_of 2 0xCB rfl rfl (by decide)
theorem EncodedLength.set4_H : EncodedLength.Statement .set4_H := encodedLength_of 2 0xCB rfl rfl (by decide)
theorem EncodedLength.set4_L : EncodedLength.Statement .set4_L := encodedLength_of 2 0xCB rfl rfl (by decide)
theorem EncodedLength.set4_A : EncodedLength.Statement .set4_A := encodedLength_of 2 0xCB rfl rfl (by decide)
theorem EncodedLength.set5_B : EncodedLength.Statement .set5_B := encodedLength_of 2 0xCB rfl rfl (by decide)
theorem EncodedLength.set5_C : EncodedLength.Statement .set5_C := encodedLength_of 2 0xCB rfl rfl (by decide)
theorem EncodedLength.set5_D : EncodedLength.Statement .set5_D := encodedLength_of 2 0xCB rfl rfl (by decide)
theorem EncodedLength.set5_E : EncodedLength.Statement .set5_E := encodedLength_of 2 0xCB rfl rfl (by decide)
theorem EncodedLength.set5_H : EncodedLength.Statement .set5_H := encodedLength_of 2 0xCB rfl rfl (by decide)
theorem EncodedLength.set5_L : EncodedLength.Statement .set5_L := encodedLength_of 2 0xCB rfl rfl (by decide)
theorem EncodedLength.set5_A : EncodedLength.Statement .set5_A := encodedLength_of 2 0xCB rfl rfl (by decide)
theorem EncodedLength.set6_B : EncodedLength.Statement .set6_B := encodedLength_of 2 0xCB rfl rfl (by decide)
theorem EncodedLength.set6_C : EncodedLength.Statement .set6_C := encodedLength_of 2 0xCB rfl rfl (by decide)
theorem EncodedLength.set6_D : EncodedLength.Statement .set6_D := encodedLength_of 2 0xCB rfl rfl (by decide)
theorem EncodedLength.set6_E : EncodedLength.Statement .set6_E := encodedLength_of 2 0xCB rfl rfl (by decide)
theorem EncodedLength.set6_H : EncodedLength.Statement .set6_H := encodedLength_of 2 0xCB rfl rfl (by decide)
theorem EncodedLength.set6_L : EncodedLength.Statement .set6_L := encodedLength_of 2 0xCB rfl rfl (by decide)
theorem EncodedLength.set6_A : EncodedLength.Statement .set6_A := encodedLength_of 2 0xCB rfl rfl (by decide)
theorem EncodedLength.set7_B : EncodedLength.Statement .set7_B := encodedLength_of 2 0xCB rfl rfl (by decide)
theorem EncodedLength.set7_C : EncodedLength.Statement .set7_C := encodedLength_of 2 0xCB rfl rfl (by decide)
theorem EncodedLength.set7_D : EncodedLength.Statement .set7_D := encodedLength_of 2 0xCB rfl rfl (by decide)
theorem EncodedLength.set7_E : EncodedLength.Statement .set7_E := encodedLength_of 2 0xCB rfl rfl (by decide)
theorem EncodedLength.set7_H : EncodedLength.Statement .set7_H := encodedLength_of 2 0xCB rfl rfl (by decide)
theorem EncodedLength.set7_L : EncodedLength.Statement .set7_L := encodedLength_of 2 0xCB rfl rfl (by decide)
theorem EncodedLength.set7_A : EncodedLength.Statement .set7_A := encodedLength_of 2 0xCB rfl rfl (by decide)
theorem EncodedLength.set0_atHL : EncodedLength.Statement .set0_atHL := encodedLength_of 2 0xCB rfl rfl (by decide)
theorem EncodedLength.set1_atHL : EncodedLength.Statement .set1_atHL := encodedLength_of 2 0xCB rfl rfl (by decide)
theorem EncodedLength.set2_atHL : EncodedLength.Statement .set2_atHL := encodedLength_of 2 0xCB rfl rfl (by decide)
theorem EncodedLength.set3_atHL : EncodedLength.Statement .set3_atHL := encodedLength_of 2 0xCB rfl rfl (by decide)
theorem EncodedLength.set4_atHL : EncodedLength.Statement .set4_atHL := encodedLength_of 2 0xCB rfl rfl (by decide)
theorem EncodedLength.set5_atHL : EncodedLength.Statement .set5_atHL := encodedLength_of 2 0xCB rfl rfl (by decide)
theorem EncodedLength.set6_atHL : EncodedLength.Statement .set6_atHL := encodedLength_of 2 0xCB rfl rfl (by decide)
theorem EncodedLength.set7_atHL : EncodedLength.Statement .set7_atHL := encodedLength_of 2 0xCB rfl rfl (by decide)
theorem EncodedLength.ldB_B : EncodedLength.Statement .ldB_B := encodedLength_of 1 0x40 rfl rfl (by decide)
theorem EncodedLength.ldB_C : EncodedLength.Statement .ldB_C := encodedLength_of 1 0x41 rfl rfl (by decide)
theorem EncodedLength.ldB_D : EncodedLength.Statement .ldB_D := encodedLength_of 1 0x42 rfl rfl (by decide)
theorem EncodedLength.ldB_E : EncodedLength.Statement .ldB_E := encodedLength_of 1 0x43 rfl rfl (by decide)
theorem EncodedLength.ldB_H : EncodedLength.Statement .ldB_H := encodedLength_of 1 0x44 rfl rfl (by decide)
theorem EncodedLength.ldB_L : EncodedLength.Statement .ldB_L := encodedLength_of 1 0x45 rfl rfl (by decide)
theorem EncodedLength.ldB_A : EncodedLength.Statement .ldB_A := encodedLength_of 1 0x47 rfl rfl (by decide)
theorem EncodedLength.ldC_B : EncodedLength.Statement .ldC_B := encodedLength_of 1 0x48 rfl rfl (by decide)
theorem EncodedLength.ldC_C : EncodedLength.Statement .ldC_C := encodedLength_of 1 0x49 rfl rfl (by decide)
theorem EncodedLength.ldC_D : EncodedLength.Statement .ldC_D := encodedLength_of 1 0x4A rfl rfl (by decide)
theorem EncodedLength.ldC_E : EncodedLength.Statement .ldC_E := encodedLength_of 1 0x4B rfl rfl (by decide)
theorem EncodedLength.ldC_H : EncodedLength.Statement .ldC_H := encodedLength_of 1 0x4C rfl rfl (by decide)
theorem EncodedLength.ldC_L : EncodedLength.Statement .ldC_L := encodedLength_of 1 0x4D rfl rfl (by decide)
theorem EncodedLength.ldC_A : EncodedLength.Statement .ldC_A := encodedLength_of 1 0x4F rfl rfl (by decide)
theorem EncodedLength.ldD_B : EncodedLength.Statement .ldD_B := encodedLength_of 1 0x50 rfl rfl (by decide)
theorem EncodedLength.ldD_C : EncodedLength.Statement .ldD_C := encodedLength_of 1 0x51 rfl rfl (by decide)
theorem EncodedLength.ldD_D : EncodedLength.Statement .ldD_D := encodedLength_of 1 0x52 rfl rfl (by decide)
theorem EncodedLength.ldD_E : EncodedLength.Statement .ldD_E := encodedLength_of 1 0x53 rfl rfl (by decide)
theorem EncodedLength.ldD_H : EncodedLength.Statement .ldD_H := encodedLength_of 1 0x54 rfl rfl (by decide)
theorem EncodedLength.ldD_L : EncodedLength.Statement .ldD_L := encodedLength_of 1 0x55 rfl rfl (by decide)
theorem EncodedLength.ldD_A : EncodedLength.Statement .ldD_A := encodedLength_of 1 0x57 rfl rfl (by decide)
theorem EncodedLength.ldE_B : EncodedLength.Statement .ldE_B := encodedLength_of 1 0x58 rfl rfl (by decide)
theorem EncodedLength.ldE_C : EncodedLength.Statement .ldE_C := encodedLength_of 1 0x59 rfl rfl (by decide)
theorem EncodedLength.ldE_D : EncodedLength.Statement .ldE_D := encodedLength_of 1 0x5A rfl rfl (by decide)
theorem EncodedLength.ldE_E : EncodedLength.Statement .ldE_E := encodedLength_of 1 0x5B rfl rfl (by decide)
theorem EncodedLength.ldE_H : EncodedLength.Statement .ldE_H := encodedLength_of 1 0x5C rfl rfl (by decide)
theorem EncodedLength.ldE_L : EncodedLength.Statement .ldE_L := encodedLength_of 1 0x5D rfl rfl (by decide)
theorem EncodedLength.ldE_A : EncodedLength.Statement .ldE_A := encodedLength_of 1 0x5F rfl rfl (by decide)
theorem EncodedLength.ldH_B : EncodedLength.Statement .ldH_B := encodedLength_of 1 0x60 rfl rfl (by decide)
theorem EncodedLength.ldH_C : EncodedLength.Statement .ldH_C := encodedLength_of 1 0x61 rfl rfl (by decide)
theorem EncodedLength.ldH_D : EncodedLength.Statement .ldH_D := encodedLength_of 1 0x62 rfl rfl (by decide)
theorem EncodedLength.ldH_E : EncodedLength.Statement .ldH_E := encodedLength_of 1 0x63 rfl rfl (by decide)
theorem EncodedLength.ldH_H : EncodedLength.Statement .ldH_H := encodedLength_of 1 0x64 rfl rfl (by decide)
theorem EncodedLength.ldH_L : EncodedLength.Statement .ldH_L := encodedLength_of 1 0x65 rfl rfl (by decide)
theorem EncodedLength.ldH_A : EncodedLength.Statement .ldH_A := encodedLength_of 1 0x67 rfl rfl (by decide)
theorem EncodedLength.ldL_B : EncodedLength.Statement .ldL_B := encodedLength_of 1 0x68 rfl rfl (by decide)
theorem EncodedLength.ldL_C : EncodedLength.Statement .ldL_C := encodedLength_of 1 0x69 rfl rfl (by decide)
theorem EncodedLength.ldL_D : EncodedLength.Statement .ldL_D := encodedLength_of 1 0x6A rfl rfl (by decide)
theorem EncodedLength.ldL_E : EncodedLength.Statement .ldL_E := encodedLength_of 1 0x6B rfl rfl (by decide)
theorem EncodedLength.ldL_H : EncodedLength.Statement .ldL_H := encodedLength_of 1 0x6C rfl rfl (by decide)
theorem EncodedLength.ldL_L : EncodedLength.Statement .ldL_L := encodedLength_of 1 0x6D rfl rfl (by decide)
theorem EncodedLength.ldL_A : EncodedLength.Statement .ldL_A := encodedLength_of 1 0x6F rfl rfl (by decide)
theorem EncodedLength.ldA_B : EncodedLength.Statement .ldA_B := encodedLength_of 1 0x78 rfl rfl (by decide)
theorem EncodedLength.ldA_C : EncodedLength.Statement .ldA_C := encodedLength_of 1 0x79 rfl rfl (by decide)
theorem EncodedLength.ldA_D : EncodedLength.Statement .ldA_D := encodedLength_of 1 0x7A rfl rfl (by decide)
theorem EncodedLength.ldA_E : EncodedLength.Statement .ldA_E := encodedLength_of 1 0x7B rfl rfl (by decide)
theorem EncodedLength.ldA_H : EncodedLength.Statement .ldA_H := encodedLength_of 1 0x7C rfl rfl (by decide)
theorem EncodedLength.ldA_L : EncodedLength.Statement .ldA_L := encodedLength_of 1 0x7D rfl rfl (by decide)
theorem EncodedLength.ldA_A : EncodedLength.Statement .ldA_A := encodedLength_of 1 0x7F rfl rfl (by decide)
theorem EncodedLength.ldB_d8 (n : Byte) : EncodedLength.Statement (.ldB_d8 n) := encodedLength_of 2 0x06 rfl rfl (by decide)
theorem EncodedLength.ldC_d8 (n : Byte) : EncodedLength.Statement (.ldC_d8 n) := encodedLength_of 2 0x0E rfl rfl (by decide)
theorem EncodedLength.ldD_d8 (n : Byte) : EncodedLength.Statement (.ldD_d8 n) := encodedLength_of 2 0x16 rfl rfl (by decide)
theorem EncodedLength.ldE_d8 (n : Byte) : EncodedLength.Statement (.ldE_d8 n) := encodedLength_of 2 0x1E rfl rfl (by decide)
theorem EncodedLength.ldH_d8 (n : Byte) : EncodedLength.Statement (.ldH_d8 n) := encodedLength_of 2 0x26 rfl rfl (by decide)
theorem EncodedLength.ldL_d8 (n : Byte) : EncodedLength.Statement (.ldL_d8 n) := encodedLength_of 2 0x2E rfl rfl (by decide)
theorem EncodedLength.ldA_d8 (n : Byte) : EncodedLength.Statement (.ldA_d8 n) := encodedLength_of 2 0x3E rfl rfl (by decide)
theorem EncodedLength.ldB_atHL : EncodedLength.Statement .ldB_atHL := encodedLength_of 1 0x46 rfl rfl (by decide)
theorem EncodedLength.ldC_atHL : EncodedLength.Statement .ldC_atHL := encodedLength_of 1 0x4E rfl rfl (by decide)
theorem EncodedLength.ldD_atHL : EncodedLength.Statement .ldD_atHL := encodedLength_of 1 0x56 rfl rfl (by decide)
theorem EncodedLength.ldE_atHL : EncodedLength.Statement .ldE_atHL := encodedLength_of 1 0x5E rfl rfl (by decide)
theorem EncodedLength.ldH_atHL : EncodedLength.Statement .ldH_atHL := encodedLength_of 1 0x66 rfl rfl (by decide)
theorem EncodedLength.ldL_atHL : EncodedLength.Statement .ldL_atHL := encodedLength_of 1 0x6E rfl rfl (by decide)
theorem EncodedLength.ldA_atHL : EncodedLength.Statement .ldA_atHL := encodedLength_of 1 0x7E rfl rfl (by decide)
theorem EncodedLength.ldAtHL_B : EncodedLength.Statement .ldAtHL_B := encodedLength_of 1 0x70 rfl rfl (by decide)
theorem EncodedLength.ldAtHL_C : EncodedLength.Statement .ldAtHL_C := encodedLength_of 1 0x71 rfl rfl (by decide)
theorem EncodedLength.ldAtHL_D : EncodedLength.Statement .ldAtHL_D := encodedLength_of 1 0x72 rfl rfl (by decide)
theorem EncodedLength.ldAtHL_E : EncodedLength.Statement .ldAtHL_E := encodedLength_of 1 0x73 rfl rfl (by decide)
theorem EncodedLength.ldAtHL_H : EncodedLength.Statement .ldAtHL_H := encodedLength_of 1 0x74 rfl rfl (by decide)
theorem EncodedLength.ldAtHL_L : EncodedLength.Statement .ldAtHL_L := encodedLength_of 1 0x75 rfl rfl (by decide)
theorem EncodedLength.ldAtHL_A : EncodedLength.Statement .ldAtHL_A := encodedLength_of 1 0x77 rfl rfl (by decide)
theorem EncodedLength.ldAtHL_d8 (n : Byte) : EncodedLength.Statement (.ldAtHL_d8 n) := encodedLength_of 2 0x36 rfl rfl (by decide)
theorem EncodedLength.ldAtBC_A : EncodedLength.Statement .ldAtBC_A := encodedLength_of 1 0x02 rfl rfl (by decide)
theorem EncodedLength.ldAtDE_A : EncodedLength.Statement .ldAtDE_A := encodedLength_of 1 0x12 rfl rfl (by decide)
theorem EncodedLength.ldA_atBC : EncodedLength.Statement .ldA_atBC := encodedLength_of 1 0x0A rfl rfl (by decide)
theorem EncodedLength.ldA_atDE : EncodedLength.Statement .ldA_atDE := encodedLength_of 1 0x1A rfl rfl (by decide)
theorem EncodedLength.ldAtHLinc_A : EncodedLength.Statement .ldAtHLinc_A := encodedLength_of 1 0x22 rfl rfl (by decide)
theorem EncodedLength.ldA_atHLinc : EncodedLength.Statement .ldA_atHLinc := encodedLength_of 1 0x2A rfl rfl (by decide)
theorem EncodedLength.ldAtHLdec_A : EncodedLength.Statement .ldAtHLdec_A := encodedLength_of 1 0x32 rfl rfl (by decide)
theorem EncodedLength.ldA_atHLdec : EncodedLength.Statement .ldA_atHLdec := encodedLength_of 1 0x3A rfl rfl (by decide)
theorem EncodedLength.ldhAtA8_A (n : Byte) : EncodedLength.Statement (.ldhAtA8_A n) := encodedLength_of 2 0xE0 rfl rfl (by decide)
theorem EncodedLength.ldhA_atA8 (n : Byte) : EncodedLength.Statement (.ldhA_atA8 n) := encodedLength_of 2 0xF0 rfl rfl (by decide)
theorem EncodedLength.ldAtC_A : EncodedLength.Statement .ldAtC_A := encodedLength_of 1 0xE2 rfl rfl (by decide)
theorem EncodedLength.ldA_atC : EncodedLength.Statement .ldA_atC := encodedLength_of 1 0xF2 rfl rfl (by decide)
theorem EncodedLength.ldAtA16_A (a : Word) : EncodedLength.Statement (.ldAtA16_A a) := encodedLength_of 3 0xEA rfl rfl (by decide)
theorem EncodedLength.ldA_atA16 (a : Word) : EncodedLength.Statement (.ldA_atA16 a) := encodedLength_of 3 0xFA rfl rfl (by decide)
theorem EncodedLength.ldBC_d16 (n : Word) : EncodedLength.Statement (.ldBC_d16 n) := encodedLength_of 3 0x01 rfl rfl (by decide)
theorem EncodedLength.ldDE_d16 (n : Word) : EncodedLength.Statement (.ldDE_d16 n) := encodedLength_of 3 0x11 rfl rfl (by decide)
theorem EncodedLength.ldHL_d16 (n : Word) : EncodedLength.Statement (.ldHL_d16 n) := encodedLength_of 3 0x21 rfl rfl (by decide)
theorem EncodedLength.ldSP_d16 (n : Word) : EncodedLength.Statement (.ldSP_d16 n) := encodedLength_of 3 0x31 rfl rfl (by decide)
theorem EncodedLength.ldAtA16_SP (a : Word) : EncodedLength.Statement (.ldAtA16_SP a) := encodedLength_of 3 0x08 rfl rfl (by decide)
theorem EncodedLength.ldSP_HL : EncodedLength.Statement .ldSP_HL := encodedLength_of 1 0xF9 rfl rfl (by decide)
theorem EncodedLength.ldHL_SPe8 (e : Byte) : EncodedLength.Statement (.ldHL_SPe8 e) := encodedLength_of 2 0xF8 rfl rfl (by decide)
theorem EncodedLength.pushBC : EncodedLength.Statement .pushBC := encodedLength_of 1 0xC5 rfl rfl (by decide)
theorem EncodedLength.pushDE : EncodedLength.Statement .pushDE := encodedLength_of 1 0xD5 rfl rfl (by decide)
theorem EncodedLength.pushHL : EncodedLength.Statement .pushHL := encodedLength_of 1 0xE5 rfl rfl (by decide)
theorem EncodedLength.pushAF : EncodedLength.Statement .pushAF := encodedLength_of 1 0xF5 rfl rfl (by decide)
theorem EncodedLength.popBC : EncodedLength.Statement .popBC := encodedLength_of 1 0xC1 rfl rfl (by decide)
theorem EncodedLength.popDE : EncodedLength.Statement .popDE := encodedLength_of 1 0xD1 rfl rfl (by decide)
theorem EncodedLength.popHL : EncodedLength.Statement .popHL := encodedLength_of 1 0xE1 rfl rfl (by decide)
theorem EncodedLength.popAF : EncodedLength.Statement .popAF := encodedLength_of 1 0xF1 rfl rfl (by decide)
theorem EncodedLength.jp_a16 (a : Word) : EncodedLength.Statement (.jp_a16 a) := encodedLength_of 3 0xC3 rfl rfl (by decide)
theorem EncodedLength.jpNZ_a16 (a : Word) : EncodedLength.Statement (.jpNZ_a16 a) := encodedLength_of 3 0xC2 rfl rfl (by decide)
theorem EncodedLength.jpZ_a16 (a : Word) : EncodedLength.Statement (.jpZ_a16 a) := encodedLength_of 3 0xCA rfl rfl (by decide)
theorem EncodedLength.jpNC_a16 (a : Word) : EncodedLength.Statement (.jpNC_a16 a) := encodedLength_of 3 0xD2 rfl rfl (by decide)
theorem EncodedLength.jpC_a16 (a : Word) : EncodedLength.Statement (.jpC_a16 a) := encodedLength_of 3 0xDA rfl rfl (by decide)
theorem EncodedLength.jpHL : EncodedLength.Statement .jpHL := encodedLength_of 1 0xE9 rfl rfl (by decide)
theorem EncodedLength.jr_e8 (e : Byte) : EncodedLength.Statement (.jr_e8 e) := encodedLength_of 2 0x18 rfl rfl (by decide)
theorem EncodedLength.jrNZ_e8 (e : Byte) : EncodedLength.Statement (.jrNZ_e8 e) := encodedLength_of 2 0x20 rfl rfl (by decide)
theorem EncodedLength.jrZ_e8 (e : Byte) : EncodedLength.Statement (.jrZ_e8 e) := encodedLength_of 2 0x28 rfl rfl (by decide)
theorem EncodedLength.jrNC_e8 (e : Byte) : EncodedLength.Statement (.jrNC_e8 e) := encodedLength_of 2 0x30 rfl rfl (by decide)
theorem EncodedLength.jrC_e8 (e : Byte) : EncodedLength.Statement (.jrC_e8 e) := encodedLength_of 2 0x38 rfl rfl (by decide)
theorem EncodedLength.call_a16 (a : Word) : EncodedLength.Statement (.call_a16 a) := encodedLength_of 3 0xCD rfl rfl (by decide)
theorem EncodedLength.callNZ_a16 (a : Word) : EncodedLength.Statement (.callNZ_a16 a) := encodedLength_of 3 0xC4 rfl rfl (by decide)
theorem EncodedLength.callZ_a16 (a : Word) : EncodedLength.Statement (.callZ_a16 a) := encodedLength_of 3 0xCC rfl rfl (by decide)
theorem EncodedLength.callNC_a16 (a : Word) : EncodedLength.Statement (.callNC_a16 a) := encodedLength_of 3 0xD4 rfl rfl (by decide)
theorem EncodedLength.callC_a16 (a : Word) : EncodedLength.Statement (.callC_a16 a) := encodedLength_of 3 0xDC rfl rfl (by decide)
theorem EncodedLength.ret : EncodedLength.Statement .ret := encodedLength_of 1 0xC9 rfl rfl (by decide)
theorem EncodedLength.retNZ : EncodedLength.Statement .retNZ := encodedLength_of 1 0xC0 rfl rfl (by decide)
theorem EncodedLength.retZ : EncodedLength.Statement .retZ := encodedLength_of 1 0xC8 rfl rfl (by decide)
theorem EncodedLength.retNC : EncodedLength.Statement .retNC := encodedLength_of 1 0xD0 rfl rfl (by decide)
theorem EncodedLength.retC : EncodedLength.Statement .retC := encodedLength_of 1 0xD8 rfl rfl (by decide)
theorem EncodedLength.reti : EncodedLength.Statement .reti := encodedLength_of 1 0xD9 rfl rfl (by decide)
theorem EncodedLength.rst00H : EncodedLength.Statement .rst00H := encodedLength_of 1 0xC7 rfl rfl (by decide)
theorem EncodedLength.rst08H : EncodedLength.Statement .rst08H := encodedLength_of 1 0xCF rfl rfl (by decide)
theorem EncodedLength.rst10H : EncodedLength.Statement .rst10H := encodedLength_of 1 0xD7 rfl rfl (by decide)
theorem EncodedLength.rst18H : EncodedLength.Statement .rst18H := encodedLength_of 1 0xDF rfl rfl (by decide)
theorem EncodedLength.rst20H : EncodedLength.Statement .rst20H := encodedLength_of 1 0xE7 rfl rfl (by decide)
theorem EncodedLength.rst28H : EncodedLength.Statement .rst28H := encodedLength_of 1 0xEF rfl rfl (by decide)
theorem EncodedLength.rst30H : EncodedLength.Statement .rst30H := encodedLength_of 1 0xF7 rfl rfl (by decide)
theorem EncodedLength.rst38H : EncodedLength.Statement .rst38H := encodedLength_of 1 0xFF rfl rfl (by decide)
theorem EncodedLength.nop : EncodedLength.Statement .nop := encodedLength_of 1 0x00 rfl rfl (by decide)
theorem EncodedLength.halt : EncodedLength.Statement .halt := encodedLength_of 1 0x76 rfl rfl (by decide)
theorem EncodedLength.stop (n : Byte) : EncodedLength.Statement (.stop n) := encodedLength_of 2 0x10 rfl rfl (by decide)
theorem EncodedLength.di : EncodedLength.Statement .di := encodedLength_of 1 0xF3 rfl rfl (by decide)
theorem EncodedLength.ei : EncodedLength.Statement .ei := encodedLength_of 1 0xFB rfl rfl (by decide)
theorem EncodedLength.reservedD3H : EncodedLength.Statement .reservedD3H := encodedLength_of 1 0xD3 rfl rfl (by decide)
theorem EncodedLength.reservedDBH : EncodedLength.Statement .reservedDBH := encodedLength_of 1 0xDB rfl rfl (by decide)
theorem EncodedLength.reservedDDH : EncodedLength.Statement .reservedDDH := encodedLength_of 1 0xDD rfl rfl (by decide)
theorem EncodedLength.reservedE3H : EncodedLength.Statement .reservedE3H := encodedLength_of 1 0xE3 rfl rfl (by decide)
theorem EncodedLength.reservedE4H : EncodedLength.Statement .reservedE4H := encodedLength_of 1 0xE4 rfl rfl (by decide)
theorem EncodedLength.reservedEBH : EncodedLength.Statement .reservedEBH := encodedLength_of 1 0xEB rfl rfl (by decide)
theorem EncodedLength.reservedECH : EncodedLength.Statement .reservedECH := encodedLength_of 1 0xEC rfl rfl (by decide)
theorem EncodedLength.reservedEDH : EncodedLength.Statement .reservedEDH := encodedLength_of 1 0xED rfl rfl (by decide)
theorem EncodedLength.reservedF4H : EncodedLength.Statement .reservedF4H := encodedLength_of 1 0xF4 rfl rfl (by decide)
theorem EncodedLength.reservedFCH : EncodedLength.Statement .reservedFCH := encodedLength_of 1 0xFC rfl rfl (by decide)
theorem EncodedLength.reservedFDH : EncodedLength.Statement .reservedFDH := encodedLength_of 1 0xFD rfl rfl (by decide)
theorem EncodedLength.prefixCB (op : Byte) : EncodedLength.Statement (.prefixCB op) := encodedLength_of 2 0xCB rfl rfl (by decide)

end Sys2Proof.Laws
end

