-- ==== Sys2Proof/Tests/Slice0.lean ====
section
/-! SUPPORT. The model's own tests. Expected results come from the spec: the words of R55 to R60 and the test vectors of
spec/95_test_vectors.md, each under its own id. Then, for every obligation with hypotheses, a state and operands that
meet them together, each clause at a boundary where it has one. -/

namespace Sys2Proof.Tests

open Sys2Proof.Machine

/-! ## States -/

/-- The start state of the vectors: every register zero but SP and PC. -/
def start : State :=
  { a := 0, f := 0, b := 0, c := 0, d := 0, e := 0, h := 0, l := 0, sp := 0xFFFE, pc := 0x0100, ime := false, mem := []
    status := .running, cfg := ⟨0x10000, .document⟩ }

/-- The same with MEM_SIZE = 0x8000. -/
def small : State := { start with cfg := ⟨0x8000, .document⟩ }

/-- The same with DAA_ALGORITHM = sm83. -/
def sm83 : State := { start with cfg := ⟨0x10000, .sm83⟩ }

/-- Bytes stored from an address on, those outside memory left out. -/
def poke (s : State) (a : Word) : List Byte → State
  | [] => s
  | v :: vs =>
    let t := if a.toNat < s.cfg.memSize then { s with mem := Memory.write s.mem a.toNat v } else s
    poke t (a + 1) vs

/-- One step with the given code at PC and the given cells in memory. -/
def run (s : State) (code : List Byte) (cells : List (Word × Byte)) : Host.Outcome State Fault Refusal :=
  step (poke (cells.foldl (fun s x => poke s x.1 [x.2]) s) s.pc code)

/-- The next state of an outcome. -/
def next? : Host.Outcome State Fault Refusal → Option State
  | .next s => some s
  | _ => none

/-- The fault of an outcome. -/
def fault? : Host.Outcome State Fault Refusal → Option Fault
  | .fault f => some f
  | _ => none

/-! ## Well-formedness -/

/-- R64: the prefix is no instruction. -/
theorem test_prefix_ill_formed : (Instr.prefixCB 0x37).wf = false := by decide

/-- R63: an unimplemented instruction is an instruction. -/
theorem test_halt_well_formed : Instr.halt.wf = true := by decide

/-! ## Decoding, from words written bit by bit (R55, R56) -/

/-- INC r, `00 rrr 100` with r = 7. -/
theorem test_decode_inc : decode [0b00111100] = .ok (.incA, []) := by rfl

/-- DEC rr, `00 pp1 011` with pp = 3. -/
theorem test_decode_dec_pair : decode [0b00111011] = .ok (.decSP, []) := by rfl

/-- SBC A,r, `10 ooo rrr` with o = 3 and r = 4. -/
theorem test_decode_alu : decode [0b10011100] = .ok (.sbcA_H, []) := by rfl

/-- XOR A,d8, `11 ooo 110` with o = 5. -/
theorem test_decode_alu_imm : decode [0b11101110, 0x0F] = .ok (.xorA_d8 0x0F, []) := by rfl

/-- ADD HL,rr, `00 pp1 001` with pp = 1. -/
theorem test_decode_add_hl : decode [0b00011001] = .ok (.addHL_DE, []) := by rfl

/-- CB `00 ooo rrr` with o = 6 and r = 6. -/
theorem test_decode_swap : decode [0b11001011, 0b00110110] = .ok (.swap_atHL, []) := by rfl

/-- CB `10 bbb rrr` with b = 5 and r = 1. -/
theorem test_decode_res : decode [0b11001011, 0b10101001] = .ok (.res5_C, []) := by rfl

/-- LD r,r', `01 ddd sss` with d = 2 and s = 6. -/
theorem test_decode_ld : decode [0b01010110, 0xFF] = .ok (.ldD_atHL, [0xFF]) := by rfl

/-- LD rr,d16, `00 pp0 001` with pp = 3, the operand little-endian. -/
theorem test_decode_ld_pair : decode [0b00110001, 0xFF, 0xDF] = .ok (.ldSP_d16 0xDFFF, []) := by rfl

/-- POP qq, `11 pp0 001` with pp = 3. -/
theorem test_decode_pop : decode [0b11110001] = .ok (.popAF, []) := by rfl

/-- JR cc,e8, `001 cc 000` with cc = 2. -/
theorem test_decode_jr : decode [0b00110000, 0xFB] = .ok (.jrNC_e8 0xFB, []) := by rfl

/-- CALL cc,a16, `110 cc 100` with cc = 1. -/
theorem test_decode_call : decode [0b11001100, 0x00, 0x03] = .ok (.callZ_a16 0x0300, []) := by rfl

/-- RST t, `11 ttt 111` with t = 5. -/
theorem test_decode_rst : decode [0b11101111] = .ok (.rst28H, []) := by rfl

/-- The place of LD (HL),(HL) is HALT (R159). -/
theorem test_decode_halt : decode [0b01110110] = .ok (.halt, []) := by rfl

/-- A reserved opcode decodes to its own row (R62). -/
theorem test_decode_reserved : decode [0xEB] = .ok (.reservedEBH, []) := by rfl

/-- An instruction cut short is rejected by name. -/
theorem test_decode_truncated : decode [0xC3, 0x50] = .error (.truncated 0xC3) := by rfl

/-- No bytes are rejected by name. -/
theorem test_decode_empty : decode [] = .error .empty := by rfl

/-! ## Every row decodes from its own opcode byte (R59, R60), the operand bytes being 0x34, 0x12 -/

/-- The row at a primary opcode. -/
def primaryRow (op : Byte) : Option Instr :=
  match decode [op, 0x34, 0x12] with
  | .ok (i, _) => some i
  | .error _ => none

/-- The row at a CB opcode (R64). -/
def cbRow (op : Byte) : Option Instr :=
  match decode [0xCB, op] with
  | .ok (i, _) => some i
  | .error _ => none

/-- Row 0x0_ of the primary map (R59). -/
theorem test_primary_row_00 : List.map primaryRow
    [0x00, 0x01, 0x02, 0x03, 0x04, 0x05, 0x06, 0x07, 0x08, 0x09, 0x0A, 0x0B, 0x0C, 0x0D, 0x0E, 0x0F] = List.map some
    [.nop, .ldBC_d16 0x1234, .ldAtBC_A, .incBC, .incB, .decB, .ldB_d8 0x34, .rlca, .ldAtA16_SP 0x1234,
     .addHL_BC, .ldA_atBC, .decBC, .incC, .decC, .ldC_d8 0x34, .rrca] := by rfl

/-- Row 0x1_ of the primary map (R59). -/
theorem test_primary_row_10 : List.map primaryRow
    [0x10, 0x11, 0x12, 0x13, 0x14, 0x15, 0x16, 0x17, 0x18, 0x19, 0x1A, 0x1B, 0x1C, 0x1D, 0x1E, 0x1F] = List.map some
    [.stop 0x34, .ldDE_d16 0x1234, .ldAtDE_A, .incDE, .incD, .decD, .ldD_d8 0x34, .rla, .jr_e8 0x34,
     .addHL_DE, .ldA_atDE, .decDE, .incE, .decE, .ldE_d8 0x34, .rra] := by rfl

/-- Row 0x2_ of the primary map (R59). -/
theorem test_primary_row_20 : List.map primaryRow
    [0x20, 0x21, 0x22, 0x23, 0x24, 0x25, 0x26, 0x27, 0x28, 0x29, 0x2A, 0x2B, 0x2C, 0x2D, 0x2E, 0x2F] = List.map some
    [.jrNZ_e8 0x34, .ldHL_d16 0x1234, .ldAtHLinc_A, .incHL, .incH, .decH, .ldH_d8 0x34, .daa,
     .jrZ_e8 0x34, .addHL_HL, .ldA_atHLinc, .decHL, .incL, .decL, .ldL_d8 0x34, .cpl] := by rfl

/-- Row 0x3_ of the primary map (R59). -/
theorem test_primary_row_30 : List.map primaryRow
    [0x30, 0x31, 0x32, 0x33, 0x34, 0x35, 0x36, 0x37, 0x38, 0x39, 0x3A, 0x3B, 0x3C, 0x3D, 0x3E, 0x3F] = List.map some
    [.jrNC_e8 0x34, .ldSP_d16 0x1234, .ldAtHLdec_A, .incSP, .incAtHL, .decAtHL, .ldAtHL_d8 0x34, .scf,
     .jrC_e8 0x34, .addHL_SP, .ldA_atHLdec, .decSP, .incA, .decA, .ldA_d8 0x34, .ccf] := by rfl

/-- Row 0x4_ of the primary map (R59). -/
theorem test_primary_row_40 : List.map primaryRow
    [0x40, 0x41, 0x42, 0x43, 0x44, 0x45, 0x46, 0x47, 0x48, 0x49, 0x4A, 0x4B, 0x4C, 0x4D, 0x4E, 0x4F] = List.map some
    [.ldB_B, .ldB_C, .ldB_D, .ldB_E, .ldB_H, .ldB_L, .ldB_atHL, .ldB_A, .ldC_B, .ldC_C, .ldC_D, .ldC_E, .ldC_H,
     .ldC_L, .ldC_atHL, .ldC_A] := by rfl

/-- Row 0x5_ of the primary map (R59). -/
theorem test_primary_row_50 : List.map primaryRow
    [0x50, 0x51, 0x52, 0x53, 0x54, 0x55, 0x56, 0x57, 0x58, 0x59, 0x5A, 0x5B, 0x5C, 0x5D, 0x5E, 0x5F] = List.map some
    [.ldD_B, .ldD_C, .ldD_D, .ldD_E, .ldD_H, .ldD_L, .ldD_atHL, .ldD_A, .ldE_B, .ldE_C, .ldE_D, .ldE_E, .ldE_H,
     .ldE_L, .ldE_atHL, .ldE_A] := by rfl

/-- Row 0x6_ of the primary map (R59). -/
theorem test_primary_row_60 : List.map primaryRow
    [0x60, 0x61, 0x62, 0x63, 0x64, 0x65, 0x66, 0x67, 0x68, 0x69, 0x6A, 0x6B, 0x6C, 0x6D, 0x6E, 0x6F] = List.map some
    [.ldH_B, .ldH_C, .ldH_D, .ldH_E, .ldH_H, .ldH_L, .ldH_atHL, .ldH_A, .ldL_B, .ldL_C, .ldL_D, .ldL_E, .ldL_H,
     .ldL_L, .ldL_atHL, .ldL_A] := by rfl

/-- Row 0x7_ of the primary map (R59). -/
theorem test_primary_row_70 : List.map primaryRow
    [0x70, 0x71, 0x72, 0x73, 0x74, 0x75, 0x76, 0x77, 0x78, 0x79, 0x7A, 0x7B, 0x7C, 0x7D, 0x7E, 0x7F] = List.map some
    [.ldAtHL_B, .ldAtHL_C, .ldAtHL_D, .ldAtHL_E, .ldAtHL_H, .ldAtHL_L, .halt, .ldAtHL_A, .ldA_B, .ldA_C,
     .ldA_D, .ldA_E, .ldA_H, .ldA_L, .ldA_atHL, .ldA_A] := by rfl

/-- Row 0x8_ of the primary map (R59). -/
theorem test_primary_row_80 : List.map primaryRow
    [0x80, 0x81, 0x82, 0x83, 0x84, 0x85, 0x86, 0x87, 0x88, 0x89, 0x8A, 0x8B, 0x8C, 0x8D, 0x8E, 0x8F] = List.map some
    [.addA_B, .addA_C, .addA_D, .addA_E, .addA_H, .addA_L, .addA_atHL, .addA_A, .adcA_B, .adcA_C, .adcA_D,
     .adcA_E, .adcA_H, .adcA_L, .adcA_atHL, .adcA_A] := by rfl

/-- Row 0x9_ of the primary map (R59). -/
theorem test_primary_row_90 : List.map primaryRow
    [0x90, 0x91, 0x92, 0x93, 0x94, 0x95, 0x96, 0x97, 0x98, 0x99, 0x9A, 0x9B, 0x9C, 0x9D, 0x9E, 0x9F] = List.map some
    [.subA_B, .subA_C, .subA_D, .subA_E, .subA_H, .subA_L, .subA_atHL, .subA_A, .sbcA_B, .sbcA_C, .sbcA_D,
     .sbcA_E, .sbcA_H, .sbcA_L, .sbcA_atHL, .sbcA_A] := by rfl

/-- Row 0xA_ of the primary map (R59). -/
theorem test_primary_row_A0 : List.map primaryRow
    [0xA0, 0xA1, 0xA2, 0xA3, 0xA4, 0xA5, 0xA6, 0xA7, 0xA8, 0xA9, 0xAA, 0xAB, 0xAC, 0xAD, 0xAE, 0xAF] = List.map some
    [.andA_B, .andA_C, .andA_D, .andA_E, .andA_H, .andA_L, .andA_atHL, .andA_A, .xorA_B, .xorA_C, .xorA_D,
     .xorA_E, .xorA_H, .xorA_L, .xorA_atHL, .xorA_A] := by rfl

/-- Row 0xB_ of the primary map (R59). -/
theorem test_primary_row_B0 : List.map primaryRow
    [0xB0, 0xB1, 0xB2, 0xB3, 0xB4, 0xB5, 0xB6, 0xB7, 0xB8, 0xB9, 0xBA, 0xBB, 0xBC, 0xBD, 0xBE, 0xBF] = List.map some
    [.orA_B, .orA_C, .orA_D, .orA_E, .orA_H, .orA_L, .orA_atHL, .orA_A, .cpA_B, .cpA_C, .cpA_D, .cpA_E, .cpA_H,
     .cpA_L, .cpA_atHL, .cpA_A] := by rfl

/-- Row 0xC_ of the primary map (R59). -/
theorem test_primary_row_C0 : List.map primaryRow
    [0xC0, 0xC1, 0xC2, 0xC3, 0xC4, 0xC5, 0xC6, 0xC7, 0xC8, 0xC9, 0xCA, 0xCC, 0xCD, 0xCE, 0xCF] = List.map some
    [.retNZ, .popBC, .jpNZ_a16 0x1234, .jp_a16 0x1234, .callNZ_a16 0x1234, .pushBC, .addA_d8 0x34,
     .rst00H, .retZ, .ret, .jpZ_a16 0x1234, .callZ_a16 0x1234, .call_a16 0x1234, .adcA_d8 0x34, .rst08H] := by rfl

/-- Row 0xD_ of the primary map (R59). -/
theorem test_primary_row_D0 : List.map primaryRow
    [0xD0, 0xD1, 0xD2, 0xD3, 0xD4, 0xD5, 0xD6, 0xD7, 0xD8, 0xD9, 0xDA, 0xDB, 0xDC, 0xDD, 0xDE, 0xDF] = List.map some
    [.retNC, .popDE, .jpNC_a16 0x1234, .reservedD3H, .callNC_a16 0x1234, .pushDE, .subA_d8 0x34, .rst10H,
     .retC, .reti, .jpC_a16 0x1234, .reservedDBH, .callC_a16 0x1234, .reservedDDH, .sbcA_d8 0x34, .rst18H] := by rfl

/-- Row 0xE_ of the primary map (R59). -/
theorem test_primary_row_E0 : List.map primaryRow
    [0xE0, 0xE1, 0xE2, 0xE3, 0xE4, 0xE5, 0xE6, 0xE7, 0xE8, 0xE9, 0xEA, 0xEB, 0xEC, 0xED, 0xEE, 0xEF] = List.map some
    [.ldhAtA8_A 0x34, .popHL, .ldAtC_A, .reservedE3H, .reservedE4H, .pushHL, .andA_d8 0x34, .rst20H,
     .addSP_e8 0x34, .jpHL, .ldAtA16_A 0x1234, .reservedEBH, .reservedECH, .reservedEDH, .xorA_d8 0x34,
     .rst28H] := by rfl

/-- Row 0xF_ of the primary map (R59). -/
theorem test_primary_row_F0 : List.map primaryRow
    [0xF0, 0xF1, 0xF2, 0xF3, 0xF4, 0xF5, 0xF6, 0xF7, 0xF8, 0xF9, 0xFA, 0xFB, 0xFC, 0xFD, 0xFE, 0xFF] = List.map some
    [.ldhA_atA8 0x34, .popAF, .ldA_atC, .di, .reservedF4H, .pushAF, .orA_d8 0x34, .rst30H,
     .ldHL_SPe8 0x34, .ldSP_HL, .ldA_atA16 0x1234, .ei, .reservedFCH, .reservedFDH, .cpA_d8 0x34, .rst38H] := by rfl

/-- Row 0x0_ of the CB map (R60). -/
theorem test_cb_row_00 : List.map cbRow
    [0x00, 0x01, 0x02, 0x03, 0x04, 0x05, 0x06, 0x07, 0x08, 0x09, 0x0A, 0x0B, 0x0C, 0x0D, 0x0E, 0x0F] = List.map some
    [.rlc_B, .rlc_C, .rlc_D, .rlc_E, .rlc_H, .rlc_L, .rlc_atHL, .rlc_A, .rrc_B, .rrc_C, .rrc_D, .rrc_E, .rrc_H,
     .rrc_L, .rrc_atHL, .rrc_A] := by rfl

/-- Row 0x1_ of the CB map (R60). -/
theorem test_cb_row_10 : List.map cbRow
    [0x10, 0x11, 0x12, 0x13, 0x14, 0x15, 0x16, 0x17, 0x18, 0x19, 0x1A, 0x1B, 0x1C, 0x1D, 0x1E, 0x1F] = List.map some
    [.rl_B, .rl_C, .rl_D, .rl_E, .rl_H, .rl_L, .rl_atHL, .rl_A, .rr_B, .rr_C, .rr_D, .rr_E, .rr_H, .rr_L,
     .rr_atHL, .rr_A] := by rfl

/-- Row 0x2_ of the CB map (R60). -/
theorem test_cb_row_20 : List.map cbRow
    [0x20, 0x21, 0x22, 0x23, 0x24, 0x25, 0x26, 0x27, 0x28, 0x29, 0x2A, 0x2B, 0x2C, 0x2D, 0x2E, 0x2F] = List.map some
    [.sla_B, .sla_C, .sla_D, .sla_E, .sla_H, .sla_L, .sla_atHL, .sla_A, .sra_B, .sra_C, .sra_D, .sra_E, .sra_H,
     .sra_L, .sra_atHL, .sra_A] := by rfl

/-- Row 0x3_ of the CB map (R60). -/
theorem test_cb_row_30 : List.map cbRow
    [0x30, 0x31, 0x32, 0x33, 0x34, 0x35, 0x36, 0x37, 0x38, 0x39, 0x3A, 0x3B, 0x3C, 0x3D, 0x3E, 0x3F] = List.map some
    [.swap_B, .swap_C, .swap_D, .swap_E, .swap_H, .swap_L, .swap_atHL, .swap_A, .srl_B, .srl_C, .srl_D, .srl_E,
     .srl_H, .srl_L, .srl_atHL, .srl_A] := by rfl

/-- Row 0x4_ of the CB map (R60). -/
theorem test_cb_row_40 : List.map cbRow
    [0x40, 0x41, 0x42, 0x43, 0x44, 0x45, 0x46, 0x47, 0x48, 0x49, 0x4A, 0x4B, 0x4C, 0x4D, 0x4E, 0x4F] = List.map some
    [.bit0_B, .bit0_C, .bit0_D, .bit0_E, .bit0_H, .bit0_L, .bit0_atHL, .bit0_A, .bit1_B, .bit1_C, .bit1_D,
     .bit1_E, .bit1_H, .bit1_L, .bit1_atHL, .bit1_A] := by rfl

/-- Row 0x5_ of the CB map (R60). -/
theorem test_cb_row_50 : List.map cbRow
    [0x50, 0x51, 0x52, 0x53, 0x54, 0x55, 0x56, 0x57, 0x58, 0x59, 0x5A, 0x5B, 0x5C, 0x5D, 0x5E, 0x5F] = List.map some
    [.bit2_B, .bit2_C, .bit2_D, .bit2_E, .bit2_H, .bit2_L, .bit2_atHL, .bit2_A, .bit3_B, .bit3_C, .bit3_D,
     .bit3_E, .bit3_H, .bit3_L, .bit3_atHL, .bit3_A] := by rfl

/-- Row 0x6_ of the CB map (R60). -/
theorem test_cb_row_60 : List.map cbRow
    [0x60, 0x61, 0x62, 0x63, 0x64, 0x65, 0x66, 0x67, 0x68, 0x69, 0x6A, 0x6B, 0x6C, 0x6D, 0x6E, 0x6F] = List.map some
    [.bit4_B, .bit4_C, .bit4_D, .bit4_E, .bit4_H, .bit4_L, .bit4_atHL, .bit4_A, .bit5_B, .bit5_C, .bit5_D,
     .bit5_E, .bit5_H, .bit5_L, .bit5_atHL, .bit5_A] := by rfl

/-- Row 0x7_ of the CB map (R60). -/
theorem test_cb_row_70 : List.map cbRow
    [0x70, 0x71, 0x72, 0x73, 0x74, 0x75, 0x76, 0x77, 0x78, 0x79, 0x7A, 0x7B, 0x7C, 0x7D, 0x7E, 0x7F] = List.map some
    [.bit6_B, .bit6_C, .bit6_D, .bit6_E, .bit6_H, .bit6_L, .bit6_atHL, .bit6_A, .bit7_B, .bit7_C, .bit7_D,
     .bit7_E, .bit7_H, .bit7_L, .bit7_atHL, .bit7_A] := by rfl

/-- Row 0x8_ of the CB map (R60). -/
theorem test_cb_row_80 : List.map cbRow
    [0x80, 0x81, 0x82, 0x83, 0x84, 0x85, 0x86, 0x87, 0x88, 0x89, 0x8A, 0x8B, 0x8C, 0x8D, 0x8E, 0x8F] = List.map some
    [.res0_B, .res0_C, .res0_D, .res0_E, .res0_H, .res0_L, .res0_atHL, .res0_A, .res1_B, .res1_C, .res1_D,
     .res1_E, .res1_H, .res1_L, .res1_atHL, .res1_A] := by rfl

/-- Row 0x9_ of the CB map (R60). -/
theorem test_cb_row_90 : List.map cbRow
    [0x90, 0x91, 0x92, 0x93, 0x94, 0x95, 0x96, 0x97, 0x98, 0x99, 0x9A, 0x9B, 0x9C, 0x9D, 0x9E, 0x9F] = List.map some
    [.res2_B, .res2_C, .res2_D, .res2_E, .res2_H, .res2_L, .res2_atHL, .res2_A, .res3_B, .res3_C, .res3_D,
     .res3_E, .res3_H, .res3_L, .res3_atHL, .res3_A] := by rfl

/-- Row 0xA_ of the CB map (R60). -/
theorem test_cb_row_A0 : List.map cbRow
    [0xA0, 0xA1, 0xA2, 0xA3, 0xA4, 0xA5, 0xA6, 0xA7, 0xA8, 0xA9, 0xAA, 0xAB, 0xAC, 0xAD, 0xAE, 0xAF] = List.map some
    [.res4_B, .res4_C, .res4_D, .res4_E, .res4_H, .res4_L, .res4_atHL, .res4_A, .res5_B, .res5_C, .res5_D,
     .res5_E, .res5_H, .res5_L, .res5_atHL, .res5_A] := by rfl

/-- Row 0xB_ of the CB map (R60). -/
theorem test_cb_row_B0 : List.map cbRow
    [0xB0, 0xB1, 0xB2, 0xB3, 0xB4, 0xB5, 0xB6, 0xB7, 0xB8, 0xB9, 0xBA, 0xBB, 0xBC, 0xBD, 0xBE, 0xBF] = List.map some
    [.res6_B, .res6_C, .res6_D, .res6_E, .res6_H, .res6_L, .res6_atHL, .res6_A, .res7_B, .res7_C, .res7_D,
     .res7_E, .res7_H, .res7_L, .res7_atHL, .res7_A] := by rfl

/-- Row 0xC_ of the CB map (R60). -/
theorem test_cb_row_C0 : List.map cbRow
    [0xC0, 0xC1, 0xC2, 0xC3, 0xC4, 0xC5, 0xC6, 0xC7, 0xC8, 0xC9, 0xCA, 0xCB, 0xCC, 0xCD, 0xCE, 0xCF] = List.map some
    [.set0_B, .set0_C, .set0_D, .set0_E, .set0_H, .set0_L, .set0_atHL, .set0_A, .set1_B, .set1_C, .set1_D,
     .set1_E, .set1_H, .set1_L, .set1_atHL, .set1_A] := by rfl

/-- Row 0xD_ of the CB map (R60). -/
theorem test_cb_row_D0 : List.map cbRow
    [0xD0, 0xD1, 0xD2, 0xD3, 0xD4, 0xD5, 0xD6, 0xD7, 0xD8, 0xD9, 0xDA, 0xDB, 0xDC, 0xDD, 0xDE, 0xDF] = List.map some
    [.set2_B, .set2_C, .set2_D, .set2_E, .set2_H, .set2_L, .set2_atHL, .set2_A, .set3_B, .set3_C, .set3_D,
     .set3_E, .set3_H, .set3_L, .set3_atHL, .set3_A] := by rfl

/-- Row 0xE_ of the CB map (R60). -/
theorem test_cb_row_E0 : List.map cbRow
    [0xE0, 0xE1, 0xE2, 0xE3, 0xE4, 0xE5, 0xE6, 0xE7, 0xE8, 0xE9, 0xEA, 0xEB, 0xEC, 0xED, 0xEE, 0xEF] = List.map some
    [.set4_B, .set4_C, .set4_D, .set4_E, .set4_H, .set4_L, .set4_atHL, .set4_A, .set5_B, .set5_C, .set5_D,
     .set5_E, .set5_H, .set5_L, .set5_atHL, .set5_A] := by rfl

/-- Row 0xF_ of the CB map (R60). -/
theorem test_cb_row_F0 : List.map cbRow
    [0xF0, 0xF1, 0xF2, 0xF3, 0xF4, 0xF5, 0xF6, 0xF7, 0xF8, 0xF9, 0xFA, 0xFB, 0xFC, 0xFD, 0xFE, 0xFF] = List.map some
    [.set6_B, .set6_C, .set6_D, .set6_E, .set6_H, .set6_L, .set6_atHL, .set6_A, .set7_B, .set7_C, .set7_D,
     .set7_E, .set7_H, .set7_L, .set7_atHL, .set7_A] := by rfl

/-! ## The host's interface: table words, the first step after reset, the launch -/

/-- A CB row's word has the prefix above the CB opcode (log entry 5). -/
theorem test_table_word_cb : decodeTableWord 16 0xCB06 = some .rlc_atHL := by decide

/-- A row with operand bytes the table gives no bits. -/
theorem test_table_word_short : decodeTableWord 8 0xC3 = some (.jp_a16 0x0000) := by decide

/-- A row with its operand bytes in the word, the first byte least significant. -/
theorem test_table_word_long : decodeTableWord 24 0x0150C3 = some (.jp_a16 0x0150) := by decide

/-- The word placed at PC runs as the first step after reset. -/
theorem test_first_step : (next? (step (State.reset.withFetchWord 24 0x0150C3))).map (fun t => t.pc) = some 0x0150 := by
  decide

/-- The launch with the model's default parameters is the reset state. -/
theorem test_launch_default : launch Launch.default = .ok State.reset := by rfl

/-- A loader write outside memory is the fault of R186. -/
theorem test_loader_fault : loaderWrite small 0x8000 0x00 = .error (.outOfRange 0x8000) := by rfl

/-- R192: RET NC costs 20 when its condition holds. -/
theorem test_cost_taken : (hostStep (poke start 0x0100 [0xD0])).1 = .ok (some 20) := by decide

/-- R192: RET NC costs 8 when its condition is false. -/
theorem test_cost_not_taken : (hostStep (poke { start with f := 0x10 } 0x0100 [0xD0])).1 = .ok (some 8) := by decide

/-- R192: RLC (HL) costs 16. -/
theorem test_cost_cb : (hostStep (poke start 0x0100 [0xCB, 0x06])).1 = .ok (some 16) := by decide

/-- V60-14 (R169): a fault discards the step's earlier write. -/
theorem test_V60_14 :
    let s := poke (poke { small with sp := 0x0001, b := 0x12, c := 0x34 } 0x0000 [0x99]) 0x0100 [0xC5]
    hostStep s = (.fault (.outOfRange 0xFFFF), s.takeFault (.outOfRange 0xFFFF)) := by decide

/-- R185: a Faulted state's step is refused with the recorded fault. -/
theorem test_faulted_refused : hostStep (start.takeFault (.reserved 0xDD)) =
    (.refused (.alreadyFaulted (.reserved 0xDD)), start.takeFault (.reserved 0xDD)) := by decide

/-- R164: the prefix row runs the entry its second byte selects (V46-10's operands). -/
theorem test_prefix_runs : (next? (exec (.prefixCB 0x37) { start with a := 0xF1 })).map (fun t => (t.a, t.f)) =
    some (0x1F, 0x00) := by decide

/-! ## The spec's vectors, one step each -/

/-! ### 41_inc_dec.md -/

/-- V41-1 (R69): INC B. -/
theorem test_V41_1 : (next? (run { start with b := 0xFF, f := 0x10 } [0x04] [])).map (fun t => (t.f, t.b, t.pc)) =
    some (0xB0, 0x00, 0x0101) := by decide

/-- V41-3 (R69): INC C. -/
theorem test_V41_3 : (next? (run { start with c := 0x41, f := 0xF0 } [0x0C] [])).map (fun t => (t.f, t.c, t.pc)) =
    some (0x10, 0x42, 0x0101) := by decide

/-- V41-5 (R70): INC (HL). -/
theorem test_V41_5 :
    (next? (run { start with h := 0xC0, l := 0x00 } [0x34] [(0xC000, 0xFF)])).map
      (fun t => (t.f, t.pc, peek t 0xC000)) =
    some (0xA0, 0x0101, 0x00) := by decide

/-- V41-7 (R71): DEC D. -/
theorem test_V41_7 : (next? (run { start with d := 0x00, f := 0x10 } [0x15] [])).map (fun t => (t.f, t.d, t.pc)) =
    some (0x70, 0xFF, 0x0101) := by decide

/-- V41-9 (R72): DEC (HL). -/
theorem test_V41_9 :
    (next? (run { start with h := 0xC0, l := 0x00 } [0x35] [(0xC000, 0x00)])).map
      (fun t => (t.f, t.pc, peek t 0xC000)) =
    some (0x60, 0x0101, 0xFF) := by decide

/-- V41-10 (R74): INC SP. -/
theorem test_V41_10 :
    (next? (run { start with sp := 0xFFFF, f := 0x00 } [0x33] [])).map (fun t => (t.sp, t.f, t.pc)) =
    some (0x0000, 0x00, 0x0101) := by decide

/-- V41-11 (R74): INC BC. -/
theorem test_V41_11 :
    (next? (run { start with b := 0x00, c := 0xFF, f := 0xF0 } [0x03] [])).map (fun t => (t.b, t.c, t.f, t.pc)) =
    some (0x01, 0x00, 0xF0, 0x0101) := by decide

/-- V41-12 (R75): DEC BC. -/
theorem test_V41_12 :
    (next? (run { start with b := 0x00, c := 0x00 } [0x0B] [])).map (fun t => (t.b, t.c, t.f, t.pc)) =
    some (0xFF, 0xFF, 0x00, 0x0101) := by decide


/-! ### 42_alu.md -/

/-- V42-1 (R78): ADD A,B. -/
theorem test_V42_1 : (next? (run { start with a := 0x3A, b := 0xC6 } [0x80] [])).map (fun t => (t.a, t.f, t.pc)) =
    some (0x00, 0xB0, 0x0101) := by decide

/-- V42-4 (R78): ADD A,(HL). -/
theorem test_V42_4 :
    (next? (run { start with a := 0x0F, h := 0xC0, l := 0x00 } [0x86] [(0xC000, 0x01)])).map
      (fun t => (t.a, t.f, t.pc)) =
    some (0x10, 0x20, 0x0101) := by decide

/-- V42-7 (R79): ADC A,B. -/
theorem test_V42_7 :
    (next? (run { start with a := 0xFF, b := 0xFF, f := 0x10 } [0x88] [])).map (fun t => (t.f, t.pc)) =
    some (0x30, 0x0101) := by decide

/-- V42-10 (R80): SUB A,E. -/
theorem test_V42_10 : (next? (run { start with a := 0x3E, e := 0x3E } [0x93] [])).map (fun t => (t.a, t.f, t.pc)) =
    some (0x00, 0xC0, 0x0101) := by decide

/-- V42-14 (R81): SBC A,H. -/
theorem test_V42_14 :
    (next? (run { start with a := 0x3B, h := 0x2A, f := 0x10 } [0x9C] [])).map (fun t => (t.a, t.f, t.pc)) =
    some (0x10, 0x40, 0x0101) := by decide

/-- V42-18 (R82): AND A,L. -/
theorem test_V42_18 : (next? (run { start with a := 0x5A, l := 0x3F } [0xA5] [])).map (fun t => (t.a, t.f, t.pc)) =
    some (0x1A, 0x20, 0x0101) := by decide

/-- V42-20 (R83): XOR A,0x0F. -/
theorem test_V42_20 : (next? (run { start with a := 0xFF } [0xEE, 0x0F] [])).map (fun t => (t.a, t.f, t.pc)) =
    some (0xF0, 0x00, 0x0102) := by decide

/-- V42-22 (R84): OR A,0x0F. -/
theorem test_V42_22 : (next? (run { start with a := 0x5A } [0xF6, 0x0F] [])).map (fun t => (t.a, t.f, t.pc)) =
    some (0x5F, 0x00, 0x0102) := by decide

/-- V42-25 (R85): CP A,B. -/
theorem test_V42_25 : (next? (run { start with a := 0x3C, b := 0x2F } [0xB8] [])).map (fun t => (t.f, t.pc)) =
    some (0x60, 0x0101) := by decide

/-- V42-28 (R86): ADD HL,BC. -/
theorem test_V42_28 :
    (next? (run { start with h := 0x8A, l := 0x23, b := 0x06, c := 0x05 } [0x09] [])).map
      (fun t => (t.f, t.h, t.l, t.pc)) =
    some (0x20, 0x90, 0x28, 0x0101) := by decide

/-- V42-30 (R86): ADD HL,DE (Z kept). -/
theorem test_V42_30 :
    (next? (run { start with h := 0xFF, l := 0xFF, d := 0x00, e := 0x01, f := 0xC0 } [0x19] [])).map
      (fun t => (t.f, t.h, t.l, t.pc)) =
    some (0xB0, 0x00, 0x00, 0x0101) := by decide

/-- V42-33 (R87): ADD SP,-1. -/
theorem test_V42_33 : (next? (run { start with sp := 0x0001 } [0xE8, 0xFF] [])).map (fun t => (t.f, t.sp, t.pc)) =
    some (0x30, 0x0000, 0x0102) := by decide

/-- V42-41 (R88): DAA after 0x99+0x61, document. -/
theorem test_V42_41 : (next? (run { start with a := 0xFA, f := 0x00 } [0x27] [])).map (fun t => (t.a, t.f, t.pc)) =
    some (0x00, 0x80, 0x0101) := by decide

/-- V42-44 (R88): DAA after 0x10-0x01 (N=1,H=1), sm83. -/
theorem test_V42_44 : (next? (run { sm83 with a := 0x0F, f := 0x60 } [0x27] [])).map (fun t => (t.a, t.f, t.pc)) =
    some (0x09, 0x40, 0x0101) := by decide

/-- V42-46 (R89): CPL. -/
theorem test_V42_46 : (next? (run { start with a := 0x35, f := 0x00 } [0x2F] [])).map (fun t => (t.a, t.f, t.pc)) =
    some (0xCA, 0x60, 0x0101) := by decide

/-- V42-48 (R90): SCF. -/
theorem test_V42_48 : (next? (run { start with f := 0xE0 } [0x37] [])).map (fun t => (t.f, t.pc)) =
    some (0x90, 0x0101) := by decide

/-- V42-49 (R91): CCF. -/
theorem test_V42_49 : (next? (run { start with f := 0x70 } [0x3F] [])).map (fun t => (t.f, t.pc)) =
    some (0x00, 0x0101) := by decide


/-! ### 43_rotate_shift_bit.md -/

/-- V43-1 (R93): RLCA. -/
theorem test_V43_1 : (next? (run { start with a := 0x85 } [0x07] [])).map (fun t => (t.a, t.f, t.pc)) =
    some (0x0B, 0x10, 0x0101) := by decide

/-- V43-3 (R94): RLA. -/
theorem test_V43_3 : (next? (run { start with a := 0x95, f := 0x10 } [0x17] [])).map (fun t => (t.a, t.f, t.pc)) =
    some (0x2B, 0x10, 0x0101) := by decide

/-- V43-5 (R95): RRCA. -/
theorem test_V43_5 : (next? (run { start with a := 0x3B } [0x0F] [])).map (fun t => (t.a, t.f, t.pc)) =
    some (0x9D, 0x10, 0x0101) := by decide

/-- V43-7 (R96): RRA. -/
theorem test_V43_7 : (next? (run { start with a := 0x81 } [0x1F] [])).map (fun t => (t.a, t.f, t.pc)) =
    some (0x40, 0x10, 0x0101) := by decide

/-- V43-10 (R97): RLC A on 0x00. -/
theorem test_V43_10 : (next? (run { start with a := 0x00 } [0xCB, 0x07] [])).map (fun t => (t.f, t.pc)) =
    some (0x80, 0x0102) := by decide

/-- V43-11 (R98): RLC (HL). -/
theorem test_V43_11 :
    (next? (run { start with h := 0xC0, l := 0x00 } [0xCB, 0x06] [(0xC000, 0x80)])).map
      (fun t => (t.f, t.pc, peek t 0xC000)) =
    some (0x10, 0x0102, 0x01) := by decide

/-- V43-15 (R102): RL (HL). -/
theorem test_V43_15 :
    (next? (run { start with h := 0xC0, l := 0x00, f := 0x10 } [0xCB, 0x16] [(0xC000, 0x11)])).map
      (fun t => (t.f, t.pc, peek t 0xC000)) =
    some (0x00, 0x0102, 0x23) := by decide

/-- V43-17 (R104): RR (HL). -/
theorem test_V43_17 :
    (next? (run { start with h := 0xC0, l := 0x00, f := 0x10 } [0xCB, 0x1E] [(0xC000, 0x8A)])).map
      (fun t => (t.f, t.pc, peek t 0xC000)) =
    some (0x00, 0x0102, 0xC5) := by decide

/-- V43-18 (R105): SLA D. -/
theorem test_V43_18 : (next? (run { start with d := 0x80 } [0xCB, 0x22] [])).map (fun t => (t.f, t.d, t.pc)) =
    some (0x90, 0x00, 0x0102) := by decide

/-- V43-23 (R109): SRL A. -/
theorem test_V43_23 : (next? (run { start with a := 0x01 } [0xCB, 0x3F] [])).map (fun t => (t.a, t.f, t.pc)) =
    some (0x00, 0x90, 0x0102) := by decide

/-- V43-25 (R111): SWAP A. -/
theorem test_V43_25 :
    (next? (run { start with a := 0xF0, f := 0x70 } [0xCB, 0x37] [])).map (fun t => (t.a, t.f, t.pc)) =
    some (0x0F, 0x00, 0x0102) := by decide

/-- V43-27 (R112): SWAP (HL). -/
theorem test_V43_27 :
    (next? (run { start with h := 0xC0, l := 0x00 } [0xCB, 0x36] [(0xC000, 0x12)])).map
      (fun t => (t.f, t.pc, peek t 0xC000)) =
    some (0x00, 0x0102, 0x21) := by decide

/-- V43-29 (R113): BIT 6,H. -/
theorem test_V43_29 : (next? (run { start with h := 0x80, f := 0x10 } [0xCB, 0x74] [])).map (fun t => (t.f, t.pc)) =
    some (0xB0, 0x0102) := by decide

/-- V43-31 (R114): BIT 6,(HL). -/
theorem test_V43_31 :
    (next? (run { start with h := 0xC0, l := 0x00, f := 0xD0 } [0xCB, 0x76] [(0xC000, 0x40)])).map
      (fun t => (t.f, t.pc)) =
    some (0x30, 0x0102) := by decide

/-- V43-32 (R115): RES 7,A. -/
theorem test_V43_32 :
    (next? (run { start with a := 0xFF, f := 0x50 } [0xCB, 0xBF] [])).map (fun t => (t.a, t.f, t.pc)) =
    some (0x7F, 0x50, 0x0102) := by decide

/-- V43-33 (R116): RES 0,(HL). -/
theorem test_V43_33 :
    (next? (run { start with h := 0xC0, l := 0x00 } [0xCB, 0x86] [(0xC000, 0x0F)])).map
      (fun t => (t.f, t.pc, peek t 0xC000)) =
    some (0x00, 0x0102, 0x0E) := by decide

/-- V43-35 (R118): SET 3,(HL). -/
theorem test_V43_35 :
    (next? (run { start with h := 0xC0, l := 0x00 } [0xCB, 0xDE] [(0xC000, 0x00)])).map
      (fun t => (t.f, t.pc, peek t 0xC000)) =
    some (0x00, 0x0102, 0x08) := by decide

/-- V43-36 (R117): SET 1,E (CB CB). -/
theorem test_V43_36 : (next? (run { start with e := 0x00 } [0xCB, 0xCB] [])).map (fun t => (t.e, t.f, t.pc)) =
    some (0x02, 0x00, 0x0102) := by decide


/-! ### 44_loads.md -/

/-- V44-1 (R120): LD B,C. -/
theorem test_V44_1 : (next? (run { start with c := 0x5A } [0x41] [])).map (fun t => (t.b, t.f, t.pc)) =
    some (0x5A, 0x00, 0x0101) := by decide

/-- V44-3 (R121): LD A,0x42. -/
theorem test_V44_3 : (next? (run start [0x3E, 0x42] [])).map (fun t => (t.a, t.f, t.pc)) =
    some (0x42, 0x00, 0x0102) := by decide

/-- V44-6 (R123): LD (HL),H. -/
theorem test_V44_6 :
    (next? (run { start with h := 0xC0, l := 0x12 } [0x74] [])).map (fun t => (t.f, t.pc, peek t 0xC012)) =
    some (0x00, 0x0101, 0xC0) := by decide

/-- V44-7 (R124): LD (HL),0x7F. -/
theorem test_V44_7 :
    (next? (run { start with h := 0xC0, l := 0x00 } [0x36, 0x7F] [])).map (fun t => (t.f, t.pc, peek t 0xC000)) =
    some (0x00, 0x0102, 0x7F) := by decide

/-- V44-9 (R126): LD A,(BC). -/
theorem test_V44_9 :
    (next? (run { start with b := 0xC1, c := 0x00 } [0x0A] [(0xC100, 0x07)])).map (fun t => (t.a, t.f, t.pc)) =
    some (0x07, 0x00, 0x0101) := by decide

/-- V44-11 (R127): LD (HL+),A at 0xFFFF. -/
theorem test_V44_11 :
    (next? (run { start with h := 0xFF, l := 0xFF, a := 0x42 } [0x22] [])).map
      (fun t => (t.h, t.l, t.f, t.pc, peek t 0xFFFF)) =
    some (0x00, 0x00, 0x00, 0x0101, 0x42) := by decide

/-- V44-13 (R129): LD (HL-),A. -/
theorem test_V44_13 :
    (next? (run { start with h := 0xC0, l := 0xFF, a := 0x00 } [0x32] [(0xC0FF, 0x55)])).map
      (fun t => (t.l, t.f, t.pc, peek t 0xC0FF)) =
    some (0xFE, 0x00, 0x0101, 0x00) := by decide

/-- V44-15 (R130): LD A,(HL-) at 0x0000. -/
theorem test_V44_15 :
    (next? (run { start with h := 0x00, l := 0x00 } [0x3A] [(0x0000, 0x5E)])).map
      (fun t => (t.a, t.h, t.l, t.f, t.pc)) =
    some (0x5E, 0xFF, 0xFF, 0x00, 0x0101) := by decide

/-- V44-19 (R133): LD (C),A. -/
theorem test_V44_19 :
    (next? (run { start with b := 0x12, c := 0x80, a := 0x01 } [0xE2] [])).map (fun t => (t.f, t.pc, peek t 0xFF80)) =
    some (0x00, 0x0101, 0x01) := by decide

/-- V44-21 (R135): LD (0xC000),A. -/
theorem test_V44_21 :
    (next? (run { start with a := 0x5C } [0xEA, 0x00, 0xC0] [])).map (fun t => (t.f, t.pc, peek t 0xC000)) =
    some (0x00, 0x0103, 0x5C) := by decide

/-- V44-23 (R137): LD HL,0x1234. -/
theorem test_V44_23 : (next? (run start [0x21, 0x34, 0x12] [])).map (fun t => (t.h, t.l, t.f, t.pc)) =
    some (0x12, 0x34, 0x00, 0x0103) := by decide

/-- V44-24 (R137): LD SP,0xDFFF. -/
theorem test_V44_24 : (next? (run start [0x31, 0xFF, 0xDF] [])).map (fun t => (t.sp, t.f, t.pc)) =
    some (0xDFFF, 0x00, 0x0103) := by decide

/-- V44-26 (R138): LD (0xFFFF),SP. -/
theorem test_V44_26 :
    (next? (run { start with sp := 0x1234 } [0x08, 0xFF, 0xFF] [])).map
      (fun t => (t.f, t.pc, peek t 0x0000, peek t 0xFFFF)) =
    some (0x00, 0x0103, 0x12, 0x34) := by decide

/-- V44-27 (R139): LD SP,HL. -/
theorem test_V44_27 : (next? (run { start with h := 0xDF, l := 0xFF } [0xF9] [])).map (fun t => (t.sp, t.f, t.pc)) =
    some (0xDFFF, 0x00, 0x0101) := by decide

/-- V44-29 (R140): LD HL,SP-1. -/
theorem test_V44_29 :
    (next? (run { start with sp := 0x0001, f := 0xC0 } [0xF8, 0xFF] [])).map (fun t => (t.f, t.pc)) =
    some (0x30, 0x0102) := by decide

/-- V44-31 (R141): PUSH AF. -/
theorem test_V44_31 :
    (next? (run { start with sp := 0xFFFE, a := 0x12, f := 0xB0 } [0xF5] [])).map
      (fun t => (t.sp, t.f, t.pc, peek t 0xFFFC, peek t 0xFFFD)) =
    some (0xFFFC, 0xB0, 0x0101, 0xB0, 0x12) := by decide

/-- V44-33 (R142): POP AF. -/
theorem test_V44_33 :
    (next? (run { start with sp := 0xFFFC } [0xF1] [(0xFFFC, 0xFF), (0xFFFD, 0x12)])).map
      (fun t => (t.a, t.f, t.sp, t.pc)) =
    some (0x12, 0xF0, 0xFFFE, 0x0101) := by decide

/-- V44-34 (R142): POP HL at SP=0xFFFF. -/
theorem test_V44_34 :
    (next? (run { start with sp := 0xFFFF, pc := 0x0100 } [0xE1] [(0x0000, 0x12), (0xFFFF, 0x34)])).map
      (fun t => (t.h, t.l, t.sp, t.f, t.pc)) =
    some (0x12, 0x34, 0x0001, 0x00, 0x0101) := by decide


/-! ### 45_control.md -/

/-- V45-1 (R146): JP 0x0150. -/
theorem test_V45_1 : (next? (run start [0xC3, 0x50, 0x01] [])).map (fun t => (t.f, t.pc)) =
    some (0x00, 0x0150) := by decide

/-- V45-2 (R147): JP NZ,0x0150 (Z=1). -/
theorem test_V45_2 :
    (next? (run { start with pc := 0x0200, f := 0x80 } [0xC2, 0x50, 0x01] [])).map (fun t => (t.f, t.pc)) =
    some (0x80, 0x0203) := by decide

/-- V45-6 (R148): JP HL. -/
theorem test_V45_6 : (next? (run { start with h := 0x40, l := 0x00 } [0xE9] [])).map (fun t => (t.f, t.pc)) =
    some (0x00, 0x4000) := by decide

/-- V45-7 (R149): JR -2 at 0x0150. -/
theorem test_V45_7 : (next? (run { start with pc := 0x0150 } [0x18, 0xFE] [])).map (fun t => (t.f, t.pc)) =
    some (0x00, 0x0150) := by decide

/-- V45-8 (R149): JR +0x7F at 0xFFF0. -/
theorem test_V45_8 : (next? (run { start with pc := 0xFFF0 } [0x18, 0x7F] [])).map (fun t => (t.f, t.pc)) =
    some (0x00, 0x0071) := by decide

/-- V45-11 (R150): JR NZ,-5 at 0x0105 (Z=0). -/
theorem test_V45_11 : (next? (run { start with pc := 0x0105 } [0x20, 0xFB] [])).map (fun t => (t.f, t.pc)) =
    some (0x00, 0x0102) := by decide

/-- V45-12 (R150): JR NZ,-5 at 0x0105 (Z=1). -/
theorem test_V45_12 :
    (next? (run { start with pc := 0x0105, f := 0x80 } [0x20, 0xFB] [])).map (fun t => (t.f, t.pc)) =
    some (0x80, 0x0107) := by decide

/-- V45-14 (R151): CALL 0x0300 at 0x0200. -/
theorem test_V45_14 :
    (next? (run { start with pc := 0x0200, sp := 0xFFFE } [0xCD, 0x00, 0x03] [])).map
      (fun t => (t.sp, t.f, t.pc, peek t 0xFFFC, peek t 0xFFFD)) =
    some (0xFFFC, 0x00, 0x0300, 0x03, 0x02) := by decide

/-- V45-15 (R152): CALL C,0x0300 (C=0). -/
theorem test_V45_15 : (next? (run { start with pc := 0x0200 } [0xDC, 0x00, 0x03] [])).map (fun t => (t.f, t.pc)) =
    some (0x00, 0x0203) := by decide

/-- V45-17 (R153): RET. -/
theorem test_V45_17 :
    (next? (run { start with pc := 0x0300, sp := 0xFFFC } [0xC9] [(0xFFFC, 0x03), (0xFFFD, 0x02)])).map
      (fun t => (t.sp, t.f, t.pc)) =
    some (0xFFFE, 0x00, 0x0203) := by decide

/-- V45-18 (R155): RET Z (Z=1). -/
theorem test_V45_18 :
    (next? (run { start with pc := 0x0300, f := 0x80, sp := 0xFFFC } [0xC8] [(0xFFFC, 0x03), (0xFFFD, 0x02)])).map
      (fun t => (t.sp, t.f, t.pc)) =
    some (0xFFFE, 0x80, 0x0203) := by decide

/-- V45-20 (R156): RETI. -/
theorem test_V45_20 :
    (next? (run { start with pc := 0x0300, sp := 0xFFFC } [0xD9] [(0xFFFC, 0x03), (0xFFFD, 0x02)])).map
      (fun t => (t.sp, t.f, t.ime, t.pc)) =
    some (0xFFFE, 0x00, true, 0x0203) := by decide

/-- V45-21 (R157): RST 38H at 0x0200. -/
theorem test_V45_21 :
    (next? (run { start with pc := 0x0200 } [0xFF] [])).map
      (fun t => (t.sp, t.f, t.pc, peek t 0xFFFC, peek t 0xFFFD)) =
    some (0xFFFC, 0x00, 0x0038, 0x01, 0x02) := by decide

/-- V45-23 (R151): CALL 0x0000 at 0xFFFD (PC_next wraps). -/
theorem test_V45_23 :
    (next? (run { start with pc := 0xFFFD, sp := 0xD000 } [0xCD, 0x00, 0x00] [])).map (fun t => (t.sp, t.f, t.pc)) =
    some (0xCFFE, 0x00, 0x0000) := by decide


/-! ### 46_misc.md -/

/-- V46-2 (R158): NOP at 0xFFFF. -/
theorem test_V46_2 : (next? (run { start with pc := 0xFFFF } [0x00] [])).map (fun t => (t.f, t.pc)) =
    some (0x00, 0x0000) := by decide

/-- V46-3 (R159): HALT. -/
theorem test_V46_3 : fault? (run { start with pc := 0x0200 } [0x76] []) = some (.unimplemented 0x76) := by decide

/-- V46-4 (R160): STOP. -/
theorem test_V46_4 :
    fault? (run { start with pc := 0x0200 } [0x10, 0x00] []) = some (.unimplemented 0x10) := by decide

/-- V46-5 (R161): DI. -/
theorem test_V46_5 : fault? (run start [0xF3] []) = some (.unimplemented 0xF3) := by decide

/-- V46-7 (R163): reserved 0xDD. -/
theorem test_V46_7 : fault? (run { start with pc := 0x0300 } [0xDD] []) = some (.reserved 0xDD) := by decide


/-! ### 20_memory.md and 60_exceptions.md, with MEM_SIZE = 0x8000 -/

/-- V60-1 (R166): LD A,(0x9000). -/
theorem test_V60_1 : fault? (run small [0xFA, 0x00, 0x90] []) = some (.outOfRange 0x9000) := by decide

/-- V60-2 (R166): PUSH BC at SP=0x0001 (second write at 0xFFFF). -/
theorem test_V60_2 :
    fault? (run { small with sp := 0x0001, b := 0x12, c := 0x34 } [0xC5] []) = some (.outOfRange 0xFFFF) := by decide

/-- V60-3 (R166): LD (0x7FFF),SP (second byte at 0x8000). -/
theorem test_V60_3 :
    fault? (run { small with sp := 0x1234 } [0x08, 0xFF, 0x7F] []) = some (.outOfRange 0x8000) := by decide

/-- V60-4 (R166): LDH (0x00),A. -/
theorem test_V60_4 : fault? (run { small with a := 0x01 } [0xE0, 0x00] []) = some (.outOfRange 0xFF00) := by decide

/-- V60-5 (R170): LD A,(0x1234) with opcode at 0x7FFE (operand byte 0x8000 outside). -/
theorem test_V60_5 : fault? (run { small with pc := 0x7FFE } [0xFA, 0x34] []) = some (.outOfRange 0x8000) := by decide

/-- V60-7 (R170): opcode fetch at PC=0x8000. -/
theorem test_V60_7 : fault? (run { small with pc := 0x8000 } [] []) = some (.outOfRange 0x8000) := by decide

/-- V60-8 (R170): CB prefix at 0x7FFF (CB byte at 0x8000 outside). -/
theorem test_V60_8 : fault? (run { small with pc := 0x7FFF } [0xCB] []) = some (.outOfRange 0x8000) := by decide

/-- V60-10 (R166): POP BC at SP=0x7FFF (second read at 0x8000). -/
theorem test_V60_10 :
    fault? (run { small with sp := 0x7FFF } [0xC1] [(0x7FFF, 0x11)]) = some (.outOfRange 0x8000) := by decide

/-- V60-11 (R166): LD (HL+),A at HL=0x7FFF (HL+1 outside is not accessed). -/
theorem test_V60_11 :
    (next? (run { small with h := 0x7F, l := 0xFF, a := 0x42 } [0x22] [])).map
      (fun t => (t.h, t.l, t.f, t.pc, peek t 0x7FFF)) =
    some (0x80, 0x00, 0x00, 0x0101, 0x42) := by decide

/-- V60-13 (R170): STOP at 0x7FFF (ignored byte at 0x8000 outside). -/
theorem test_V60_13 : fault? (run { small with pc := 0x7FFF } [0x10] []) = some (.outOfRange 0x8000) := by decide

/-! ## Witnesses: for each obligation with hypotheses, a state and operands that meet them -/

/-- HL at the last byte inside memory, which holds 0x0F. -/
def hlInside : State := { small with h := 0x7F, l := 0xFF, mem := [(0x7FFF, 0x0F)] }

/-- HL at the first address outside memory. -/
def hlOutside : State := { small with h := 0x80, l := 0x00 }

/-- Code at PC. -/
def code (s : State) (pc : Word) (bytes : List Byte) : State := poke { s with pc := pc } pc bytes

theorem witness_EncodeThenDecodeIsIdentity : (Instr.ldHL_d16 0xFFFF).wf = true := by decide

theorem witness_DecodeThenEncodeGivesTheBytesBack :
    decode [0x21, 0xFF, 0xFF, 0x00] = .ok (.ldHL_d16 0xFFFF, [0x00]) := by rfl

/-- One decoding for each clause: the prefix, and each operand kind. -/
theorem witness_LengthFollowsFromFirstByte :
    decode [0xCB, 0x37] = .ok (.swap_A, []) ∧
    (decode [0xFF] = .ok (.rst38H, []) ∧ operandKind 0xFF = .none) ∧
    (decode [0x3E, 0x42] = .ok (.ldA_d8 0x42, []) ∧ operandKind 0x3E = .imm8) ∧
    (decode [0xF0, 0x44] = .ok (.ldhA_atA8 0x44, []) ∧ operandKind 0xF0 = .near8) ∧
    (decode [0x18, 0xFE] = .ok (.jr_e8 0xFE, []) ∧ operandKind 0x18 = .rel8) ∧
    (decode [0xC3, 0x50, 0x01] = .ok (.jp_a16 0x0150, []) ∧ operandKind 0xC3 = .imm16) ∧
    (decode [0xFA, 0x00, 0x90] = .ok (.ldA_atA16 0x9000, []) ∧ operandKind 0xFA = .far16) :=
  ⟨rfl, ⟨rfl, rfl⟩, ⟨rfl, rfl⟩, ⟨rfl, rfl⟩, ⟨rfl, rfl⟩, ⟨rfl, rfl⟩, ⟨rfl, rfl⟩⟩

theorem witness_PrefixRunsTheSelectedEntry :
    fieldZ 0x37 ≠ 6 ∧ fieldZ 0xFE = 6 ∧ inMemory hlInside hlInside.hl := by decide

/-- A three-byte instruction that wraps past 0xFFFF, and a one-byte instruction at the last byte of a smaller memory. -/
theorem witness_StepRunsTheDecodedInstruction :
    (let s := code start 0xFFFE [0xFA, 0x00, 0x90]
     s.status = .running ∧
     decode [peek s s.pc, peek s (s.pc + 1), peek s (s.pc + 2)] = .ok (.ldA_atA16 0x9000, []) ∧
     ∀ k < instrLength (peek s s.pc), inMemory s (s.pc + BitVec.ofNat 16 k)) ∧
    (let s := code small 0x7FFF [0x04]
     s.status = .running ∧
     decode [peek s s.pc, peek s (s.pc + 1), peek s (s.pc + 2)] = .ok (.incB, [0x00, 0x00]) ∧
     ∀ k < instrLength (peek s s.pc), inMemory s (s.pc + BitVec.ofNat 16 k)) :=
  ⟨⟨rfl, rfl, by decide⟩, ⟨rfl, rfl, by decide⟩⟩

theorem witness_FetchReportsTheFirstByteOutside :
    (let s := code small 0x8000 []
     s.status = .running ∧ ¬ inMemory s s.pc) ∧
    (let s := code small 0x7FFF [0xCB]
     s.status = .running ∧ inMemory s s.pc ∧ 2 ≤ instrLength (peek s s.pc) ∧ ¬ inMemory s (s.pc + 1)) ∧
    (let s := code small 0x7FFE [0xFA, 0x34]
     s.status = .running ∧ inMemory s s.pc ∧ inMemory s (s.pc + 1) ∧ instrLength (peek s s.pc) = 3 ∧
      ¬ inMemory s (s.pc + 2)) := by decide

theorem witness_FaultsAreTerminalAndPrecise :
    start.status = .running ∧ (start.takeFault (.reserved 0xDD)).status = .faulted (.reserved 0xDD) := by decide

theorem witness_R8OperandsNameTheirLocation :
    inMemory hlInside hlInside.hl ∧ ¬ inMemory hlOutside hlOutside.hl := by decide

theorem witness_ByteAccessesAreChecked :
    Memory.wf hlInside.mem = true ∧ inMemory hlInside 0x7FFF ∧ ¬ inMemory hlInside 0x8000 ∧
    Memory.wf start.mem = true ∧ start.cfg.memSize = 0x10000 := by decide

theorem witness_WordAccessesAreTwoByteAccesses :
    (inMemory small 0x7FFE ∧ inMemory small (0x7FFE + 1)) ∧ ¬ inMemory small 0x8000 ∧
    (inMemory small 0x7FFF ∧ ¬ inMemory small (0x7FFF + 1)) ∧
    (inMemory start 0xFFFF ∧ inMemory start (0xFFFF + 1)) := by decide

theorem witness_PushThenPopRestores :
    Memory.wf start.mem = true ∧ ∃ t, push16 { start with sp := 0x0001 } 0xABCD = .ok t := ⟨by decide, _, rfl⟩

/-- The register form at 0xFF, the (HL) form at the last byte of memory, and the (HL) form outside it. -/
theorem witness_IncrementWritesZNHAndKeepsC :
    (readR8 { start with b := 0xFF } .b = .ok 0xFF ∧ ∃ u, writeR8 { start with b := 0xFF } .b 0x00 = .ok u) ∧
    (readR8 hlInside .atHL = .ok 0x0F ∧ ∃ u, writeR8 hlInside .atHL 0x10 = .ok u) ∧
    ¬ inMemory hlOutside hlOutside.hl := ⟨⟨rfl, _, rfl⟩, ⟨rfl, _, rfl⟩, by decide⟩

theorem witness_DecrementWritesZNHAndKeepsC :
    (readR8 start .d = .ok 0x00 ∧ ∃ u, writeR8 start .d 0xFF = .ok u) ∧
    (readR8 hlInside .atHL = .ok 0x0F ∧ ∃ u, writeR8 hlInside .atHL 0x0E = .ok u) ∧
    ¬ inMemory hlOutside hlOutside.hl := ⟨⟨rfl, _, rfl⟩, ⟨rfl, _, rfl⟩, by decide⟩

theorem witness_IncrementAndDecrementUndoEachOther :
    (Memory.wf hlInside.mem = true ∧ readR8 hlInside .atHL = .ok 0x0F) ∧
    (Memory.wf start.mem = true ∧ readR8 start .a = .ok 0x00) := ⟨⟨by decide, rfl⟩, by decide, rfl⟩

theorem witness_AddAndAdcWriteSumAndFlags :
    readR8 { start with a := 0xFF } .a = .ok 0xFF ∧ readR8 hlInside .atHL = .ok 0x0F ∧
    ¬ inMemory hlOutside hlOutside.hl := ⟨rfl, rfl, by decide⟩

theorem witness_SubSbcAndCpWriteDifferenceAndFlags :
    readR8 { start with b := 0xFF } .b = .ok 0xFF ∧ readR8 hlInside .atHL = .ok 0x0F ∧
    ¬ inMemory hlOutside hlOutside.hl := ⟨rfl, rfl, by decide⟩

theorem witness_LogicOperationsFixHAndC :
    readR8 start .l = .ok 0x00 ∧ readR8 hlInside .atHL = .ok 0x0F ∧ ¬ inMemory hlOutside hlOutside.hl :=
  ⟨rfl, rfl, by decide⟩

theorem witness_DecimalAdjustFollowsItsAlgorithm : start.cfg.daa = .document ∧ sm83.cfg.daa = .sm83 := by decide

/-- RLC on 0x80 gives 0x01, on 0x0F gives 0x1E. -/
theorem witness_LeftRotatesAndShifts :
    (readR8 { start with b := 0x80 } .b = .ok 0x80 ∧
      ∃ u, writeR8 { start with b := 0x80 } .b (BitVec.ofNat 8 (2 * 0x80 % 256 + 0x80 / 128)) = .ok u) ∧
    (readR8 hlInside .atHL = .ok 0x0F ∧
      ∃ u, writeR8 hlInside .atHL (BitVec.ofNat 8 (2 * 0x0F % 256 + 0x0F / 128)) = .ok u) ∧
    ¬ inMemory hlOutside hlOutside.hl := ⟨⟨rfl, _, rfl⟩, ⟨rfl, _, rfl⟩, by decide⟩

/-- RRC on 0x01 gives 0x80, on 0x0F gives 0x87. -/
theorem witness_RightRotatesAndShifts :
    (readR8 { start with c := 0x01 } .c = .ok 0x01 ∧
      ∃ u, writeR8 { start with c := 0x01 } .c (BitVec.ofNat 8 (0x01 / 2 + 128 * (0x01 % 2))) = .ok u) ∧
    (readR8 hlInside .atHL = .ok 0x0F ∧
      ∃ u, writeR8 hlInside .atHL (BitVec.ofNat 8 (0x0F / 2 + 128 * (0x0F % 2))) = .ok u) ∧
    ¬ inMemory hlOutside hlOutside.hl := ⟨⟨rfl, _, rfl⟩, ⟨rfl, _, rfl⟩, by decide⟩

theorem witness_SwapExchangesNibbles :
    (readR8 { start with a := 0xF0 } .a = .ok 0xF0 ∧ ∃ u, writeR8 { start with a := 0xF0 } .a 0x0F = .ok u) ∧
    (readR8 hlInside .atHL = .ok 0x0F ∧ ∃ u, writeR8 hlInside .atHL 0xF0 = .ok u) ∧
    ¬ inMemory hlOutside hlOutside.hl := ⟨⟨rfl, _, rfl⟩, ⟨rfl, _, rfl⟩, by decide⟩

theorem witness_BitTestsWithoutWriting :
    readR8 { start with h := 0x80 } .h = .ok 0x80 ∧ readR8 hlInside .atHL = .ok 0x0F ∧
    ¬ inMemory hlOutside hlOutside.hl := ⟨rfl, rfl, by decide⟩

/-- Bit 7 of A cleared, bit 7 of the byte at HL set. -/
theorem witness_ResAndSetWriteOneBit :
    (readR8 { start with a := 0xFF } .a = .ok 0xFF ∧
      (∀ j < 8, (0x7F : Byte).getLsbD j = if j = (7 : Fin 8).val then false else (0xFF : Byte).getLsbD j) ∧
      ∃ u, writeR8 { start with a := 0xFF } .a 0x7F = .ok u) ∧
    (readR8 hlInside .atHL = .ok 0x0F ∧
      (∀ j < 8, (0x8F : Byte).getLsbD j = if j = (7 : Fin 8).val then true else (0x0F : Byte).getLsbD j) ∧
      ∃ u, writeR8 hlInside .atHL 0x8F = .ok u) ∧
    ¬ inMemory hlOutside hlOutside.hl :=
  ⟨⟨rfl, by decide, _, rfl⟩, ⟨rfl, by decide, _, rfl⟩, by decide⟩

theorem witness_EightBitLoadsCopyTheirSource :
    (readR8 { start with c := 0x5A } .c = .ok 0x5A ∧ ∃ u, writeR8 { start with c := 0x5A } .b 0x5A = .ok u) ∧
    (readR8 hlInside .atHL = .ok 0x0F ∧ ∃ u, writeR8 hlInside .h 0x0F = .ok u) ∧
    (readR8 hlInside .h = .ok 0x7F ∧ ∃ u, writeR8 hlInside .atHL 0x7F = .ok u) ∧
    ¬ inMemory hlOutside hlOutside.hl :=
  ⟨⟨rfl, _, rfl⟩, ⟨rfl, _, rfl⟩, ⟨rfl, _, rfl⟩, by decide⟩

theorem witness_IndirectLoadsUpdateHLAfterTheAccess :
    inMemory hlInside hlInside.hl ∧ ¬ inMemory hlOutside hlOutside.hl ∧
    inMemory { small with b := 0x7F, c := 0xFF } (State.bc { small with b := 0x7F, c := 0xFF }) ∧
    ¬ inMemory { small with d := 0x80 } (State.de { small with d := 0x80 }) := by decide

theorem witness_NearAndFarAccessesMoveA :
    inMemory start (BitVec.ofNat 16 (0xFF00 + 0xFF)) ∧ ¬ inMemory small (BitVec.ofNat 16 (0xFF00 + 0)) ∧
    inMemory small 0x7FFF ∧ ¬ inMemory small 0x8000 := by decide

theorem witness_SixteenBitLoads :
    (inMemory start 0xFFFF ∧ inMemory start (0xFFFF + 1)) ∧ ¬ inMemory small 0x8000 ∧
    (inMemory small 0x7FFF ∧ ¬ inMemory small (0x7FFF + 1)) := by decide

/-- SP = 0x0001 in both memories, and SP = 0 in the smaller: both bytes inside, the second outside, the first outside. -/
theorem witness_PushStoresHighThenLow :
    (let s : State := { start with sp := 0x0001 }
     inMemory s (s.sp - 1) ∧ inMemory s (s.sp - 2)) ∧
    (let s : State := { small with sp := 0x0001 }
     inMemory s (s.sp - 1) ∧ ¬ inMemory s (s.sp - 2)) ∧
    (let s : State := { small with sp := 0x0000 }
     ¬ inMemory s (s.sp - 1)) := by decide

/-- SP = 0xFFFF wraps; in the smaller memory SP = 0x7FFF leaves the second byte outside, SP = 0x8000 the first. -/
theorem witness_PopLoadsLowThenHigh :
    (let s : State := { start with sp := 0xFFFF }
     inMemory s s.sp ∧ inMemory s (s.sp + 1)) ∧
    (let s : State := { small with sp := 0x7FFF }
     inMemory s s.sp ∧ ¬ inMemory s (s.sp + 1)) ∧
    (let s : State := { small with sp := 0x8000 }
     ¬ inMemory s s.sp) := by decide

theorem witness_CallsPushTheReturnAddress :
    (let s : State := { start with sp := 0x0001, f := 0x80 }
     condHolds s .z = true ∧ condHolds s .nz = false ∧ inMemory s (s.sp - 1) ∧ inMemory s (s.sp - 2)) ∧
    (let s : State := { small with sp := 0x0001 }
     condHolds s .nc = true ∧ condHolds s .c = false ∧ inMemory s (s.sp - 1) ∧ ¬ inMemory s (s.sp - 2)) ∧
    (let s : State := { small with sp := 0x0000 }
     condHolds s .nz = true ∧ ¬ inMemory s (s.sp - 1)) := by decide

theorem witness_ReturnsPopPC :
    (let s : State := { start with sp := 0xFFFF, f := 0x80 }
     condHolds s .z = true ∧ condHolds s .nz = false ∧ inMemory s s.sp ∧ inMemory s (s.sp + 1)) ∧
    (let s : State := { small with sp := 0x7FFF }
     condHolds s .nz = true ∧ inMemory s s.sp ∧ ¬ inMemory s (s.sp + 1)) ∧
    (let s : State := { small with sp := 0x8000 }
     condHolds s .nc = true ∧ ¬ inMemory s s.sp) := by decide

/-- One of each of the four, its condition false. -/
theorem witness_FalseConditionOnlyAdvancesPC :
    (let s := code { start with f := 0x80 } 0x0200 [0xC2, 0x50, 0x01]
     s.status = .running ∧ condHolds s .nz = false ∧
     fetch s = .ok ⟨.jpNZ_a16 0x0150, 0x0203⟩ ∧ .jpNZ_a16 0x0150 = jpCondInstr .nz 0x0150) ∧
    (let s := code start 0xFFFE [0x38, 0x04]
     s.status = .running ∧ condHolds s .c = false ∧
     fetch s = .ok ⟨.jrC_e8 0x04, 0x0000⟩ ∧ .jrC_e8 0x04 = jrCondInstr .c 0x04) ∧
    (let s := code start 0x0200 [0xDC, 0x00, 0x03]
     s.status = .running ∧ condHolds s .c = false ∧
     fetch s = .ok ⟨.callC_a16 0x0300, 0x0203⟩ ∧ .callC_a16 0x0300 = callCondInstr .c 0x0300) ∧
    (let s := code start 0x0200 [0xC8]
     s.status = .running ∧ condHolds s .z = false ∧
     fetch s = .ok ⟨.retZ, 0x0201⟩ ∧ .retZ = retCondInstr .z) :=
  ⟨⟨rfl, rfl, rfl, rfl⟩, ⟨rfl, rfl, rfl, rfl⟩, ⟨rfl, rfl, rfl, rfl⟩, ⟨rfl, rfl, rfl, rfl⟩⟩

/-- The spec's S8, and `u` the state the CALL leaves. -/
theorem witness_CallThenReturnComesBack :
    let s := code start 0x0200 [0xCD, 0x00, 0x03]
    Memory.wf s.mem = true ∧ fetch s = .ok ⟨.call_a16 0x0300, 0x0203⟩ ∧
    ∃ t, step s = .next t ∧ t.mem = t.mem ∧ t.sp = t.sp ∧ t.cfg = t.cfg :=
  ⟨by decide, rfl, _, rfl, rfl, rfl, rfl⟩

theorem witness_NopOnlyAdvancesPC :
    let s := code start 0xFFFF [0x00]
    s.status = .running ∧ inMemory s s.pc ∧ peek s s.pc = 0x00 := by decide

theorem witness_UnimplementedInstructionsFault :
    (let s := code small 0x7FFF [0x76]
     s.status = .running ∧ inMemory s s.pc ∧ peek s s.pc = 0x76) ∧
    (let s := code small 0x7FFE [0x10]
     s.status = .running ∧ inMemory s s.pc ∧ peek s s.pc = 0x10 ∧ inMemory s (s.pc + 1)) ∧
    (let s := code small 0x7FFF [0x10]
     s.status = .running ∧ inMemory s s.pc ∧ peek s s.pc = 0x10 ∧ ¬ inMemory s (s.pc + 1)) ∧
    (let s := code start 0xFFFF [0xF3]
     s.status = .running ∧ inMemory s s.pc ∧ peek s s.pc = 0xF3) ∧
    (let s := code start 0x0000 [0xFB]
     s.status = .running ∧ inMemory s s.pc ∧ peek s s.pc = 0xFB) := by decide

theorem witness_ReservedOpcodesFault :
    (let s := code small 0x7FFF [0xD3]
     s.status = .running ∧ inMemory s s.pc ∧ peek s s.pc = 0xD3 ∧ 0xD3 ∈ reservedOpcodes) ∧
    (let s := code start 0xFFFF [0xFD]
     s.status = .running ∧ inMemory s s.pc ∧ peek s s.pc = 0xFD ∧ 0xFD ∈ reservedOpcodes) := by decide

/-- A state with a full invariant: a cell at the last address of memory. -/
theorem hlInside_inv : hlInside.Inv := ⟨by decide, by decide, by decide, by decide⟩

theorem witness_StepKeepsTheInvariant : hlInside.Inv ∧ ∃ t, step hlInside = .next t := ⟨hlInside_inv, _, rfl⟩

/-- A launch with MEM_SIZE = 0x8000, initial bytes listed inside memory and above it, and two loader writes, the second
at a given address. -/
def launchWith (a : Word) : Launch :=
  { Launch.default with
    cfg := ⟨0x8000, .document⟩, initial := [(0x7FFF, 0x22), (0x0100, 0x33), (0x8000, 0x44)]
    program := [(0x0100, 0xC9), (a, 0x01)] }

/-- A launch whose last write is at the last byte of memory, and one whose last write is the first outside. -/
theorem witness_LaunchGivesTheLaunchValues :
    ((launchWith 0x7FFF).cfg.wf ∧ (∀ x ∈ (launchWith 0x7FFF).program, x.1.toNat < (launchWith 0x7FFF).cfg.memSize) ∧
      0x7FFF < (launchWith 0x7FFF).cfg.memSize) ∧
    ((launchWith 0x8000).cfg.wf ∧ (launchWith 0x8000).program = [(0x0100, 0xC9)] ++ (0x8000, 0x01) :: [] ∧
      (∀ x ∈ [((0x0100 : Word), (0xC9 : Byte))], x.1.toNat < (launchWith 0x8000).cfg.memSize) ∧
      ¬ (0x8000 : Word).toNat < (launchWith 0x8000).cfg.memSize) := by
  simp [launchWith, Config.wf]

/-- R181, R186: the loader's byte lies over an initial byte, an initial byte shows where the loader wrote none, and an
address that neither lists holds the fill byte (log entry 2). -/
theorem test_launch_memory :
    (match launch (launchWith 0x0200) with
      | .ok s => [0x0100, 0x0200, 0x7FFF, 0x0101].map (Memory.read s.mem)
      | .error _ => []) = [0xC9, 0x01, 0x22, 0x00] := by decide

/-- A push at the wrap, and an address beside its two bytes. -/
theorem witness_MemoryChangesOnlyAtStoredAddresses :
    exec .pushDE { start with sp := 0x0001 } = .next { start with sp := 0xFFFF } ∧
    ∀ x ∈ storedAddrs { start with sp := 0x0001 } (Instr.form .pushDE), 0x0001 ≠ x.toNat := by
  refine ⟨rfl, ?_⟩
  rw [show Instr.form .pushDE = .push .de from rfl]
  simp [storedAddrs]

theorem witness_RegistersChangeOnlyAsTheRuleSays :
    (∃ t, exec .reti start = .next t) ∧ Reg.a ∉ writtenRegs (Instr.form .reti) := ⟨⟨_, rfl⟩, by decide⟩

theorem witness_FlagsChangeOnlyAsTheRuleSays :
    (∃ t, exec .incB start = .next t) ∧ Flag.c ∉ writtenFlags (Instr.form .incB) := ⟨⟨_, rfl⟩, by decide⟩

theorem witness_NoStepReadsIME :
    (∃ t, step start = .next t) ∧ step (code start 0x0100 [0xF3]) = .fault (.unimplemented 0xF3) ∧
    step (start.takeFault (.reserved 0xDD)) = .refused (.alreadyFaulted (.reserved 0xDD)) := ⟨⟨_, rfl⟩, rfl, rfl⟩

theorem witness_FullMemoryStepsComplete :
    (let s := code start 0xFFFF [0xFF]
     s.status = .running ∧ s.cfg.memSize = 0x10000 ∧ peek s s.pc ∉ reservedOpcodes ∧
     peek s s.pc ∉ unimplementedOpcodes) ∧
    (let s := code start 0xFFFF [0xD3]
     s.status = .running ∧ s.cfg.memSize = 0x10000 ∧ peek s s.pc ∈ reservedOpcodes) ∧
    (let s := code start 0xFFFF [0x10]
     s.status = .running ∧ s.cfg.memSize = 0x10000 ∧ peek s s.pc ∈ unimplementedOpcodes) := by decide

/-- The state the handler runs on: PC past the instruction. -/
def pastInstr (s : State) : State := { s with pc := s.pc + BitVec.ofNat 16 (instrLength (peek s s.pc)) }

/-- What the statement about stores asks of a state: an instruction at PC that stores at the given addresses, all inside
memory. -/
def StoresAt (s : State) (i : Instr) (rest : List Byte) (addrs : List Word) : Prop :=
  Memory.wf s.mem = true ∧ s.status = .running ∧
  decode [peek s s.pc, peek s (s.pc + 1), peek s (s.pc + 2)] = .ok (i, rest) ∧
  (∀ k < instrLength (peek s s.pc), inMemory s (s.pc + BitVec.ofNat 16 k)) ∧
  storedAddrs (pastInstr s) i.form = addrs ∧ addrs ≠ [] ∧ ∀ a ∈ addrs, inMemory s a

/-- Membership in memory, address by address: `decide` alone would run through every 16-bit address. -/
theorem inMemory_of_all {s : State} {addrs : List Word}
    (h : addrs.all (fun a => decide (a.toNat < s.cfg.memSize)) = true) : ∀ a ∈ addrs, inMemory s a := by simpa using h

/-- The bytes at the same PC after the instruction's stores, which a later step there fetches. -/
def codeAfter (s : State) (i : Instr) : List Byte :=
  [s.pc, s.pc + 1, s.pc + 2].map (byteAfter (pastInstr s) i.form)

/-- Stores over the running instruction's own opcode, and at the last byte of memory. -/
theorem witness_StoresAreSeenByLaterFetches :
    StoresAt (code { start with h := 0x01, l := 0x00, a := 0x3C } 0x0100 [0x77]) .ldAtHL_A [0, 0] [0x0100] ∧
    StoresAt (code { start with h := 0x01, l := 0x00 } 0x0100 [0x34]) .incAtHL [0, 0] [0x0100] ∧
    StoresAt (code { start with sp := 0x0101, d := 0x00 } 0x0100 [0xD5]) .pushDE [0, 0] [0x0100, 0x00FF] ∧
    StoresAt (code hlInside 0x0100 [0x77]) .ldAtHL_A [0, 0] [0x7FFF] := by
  refine ⟨?_, ?_, ?_, ?_⟩ <;> exact ⟨by decide, rfl, rfl, by decide, by decide, by decide, inMemory_of_all (by decide)⟩

/-- Stores over the running instruction's operand bytes: LD (HL),d8, LD (a16),A, LD (a16),SP, CALL, LDH (a8),A and
RES 0,(HL). -/
theorem witness_StoresAreSeenByLaterFetches_operands :
    StoresAt (code { start with h := 0x01, l := 0x01 } 0x0100 [0x36, 0x7F]) (.ldAtHL_d8 0x7F) [0] [0x0101] ∧
    StoresAt (code start 0x0100 [0xEA, 0x01, 0x01]) (.ldAtA16_A 0x0101) [] [0x0101] ∧
    StoresAt (code start 0x0100 [0x08, 0x01, 0x01]) (.ldAtA16_SP 0x0101) [] [0x0101, 0x0102] ∧
    StoresAt (code { start with sp := 0x0103 } 0x0100 [0xCD, 0x00, 0x03]) (.call_a16 0x0300) [] [0x0102, 0x0101] ∧
    StoresAt (code { start with pc := 0xFF00 } 0xFF00 [0xE0, 0x01]) (.ldhAtA8_A 0x01) [0] [0xFF01] ∧
    StoresAt (code { start with h := 0x01, l := 0x01 } 0x0100 [0xCB, 0x86]) .res0_atHL [0] [0x0101] := by
  refine ⟨?_, ?_, ?_, ?_, ?_, ?_⟩ <;> exact ⟨by decide, rfl, rfl, by decide, by decide, by decide, inMemory_of_all (by decide)⟩

/-- What a later step at the same PC decodes: the stored bytes. -/
theorem witness_StoresAreSeenByLaterFetches_later :
    decode (codeAfter (code { start with h := 0x01, l := 0x00, a := 0x3C } 0x0100 [0x77]) .ldAtHL_A) =
      .ok (.incA, [0, 0]) ∧
    decode (codeAfter (code { start with h := 0x01, l := 0x00 } 0x0100 [0x34]) .incAtHL) = .ok (.decAtHL, [0, 0]) ∧
    decode (codeAfter (code { start with sp := 0x0103 } 0x0100 [0xCD, 0x00, 0x03]) (.call_a16 0x0300)) =
      .ok (.call_a16 0x0103, []) ∧
    decode (codeAfter (code start 0x0100 [0x08, 0x01, 0x01]) (.ldAtA16_SP 0x0101)) = .ok (.ldAtA16_SP 0xFFFE, []) := by
  decide

end Sys2Proof.Tests
end

section
/-! SUPPORT. The half-carry, half-borrow, carry and borrow helpers as comparisons of numbers (spec/00_scope.md R10 to
R14). -/

namespace Sys2Proof.Machine

/-! ## The masks of R10 to R13 as remainders -/

theorem toNat_and_lowNibble (v : Byte) : (v &&& 0x0F).toNat = v.toNat % 16 :=
  Nat.and_two_pow_sub_one_eq_mod v.toNat 4

theorem toNat_and_lowTwelve (v : Word) : (v &&& 0x0FFF).toNat = v.toNat % 4096 :=
  Nat.and_two_pow_sub_one_eq_mod v.toNat 12

/-- Bit `k` of a number below `2 ^ (k + 1)` says whether the number reaches `2 ^ k`. -/
theorem testBit_top_eq_decide {n k : Nat} (h : n < 2 ^ (k + 1)) : n.testBit k = decide (n ≥ 2 ^ k) := by
  by_cases hn : n ≥ 2 ^ k
  · simp [hn, Nat.testBit_of_two_pow_le_and_two_pow_add_one_gt hn h]
  · simp [hn, Nat.testBit_lt_two_pow (Nat.lt_of_not_ge hn)]

/-! ## One comparison per helper -/

theorem halfCarryAdd_eq (a b : Byte) : halfCarryAdd a b = decide (a.toNat % 16 + b.toNat % 16 ≥ 16) := by
  rw [halfCarryAdd, toNat_and_lowNibble, toNat_and_lowNibble]
  exact testBit_top_eq_decide (by omega)

/-- The masked difference borrows from bit 4 exactly when it is negative (R11). -/
theorem halfCarrySub_eq (a b : Byte) : halfCarrySub a b = decide (a.toNat % 16 < b.toNat % 16) := by
  rw [halfCarrySub, getBit, ← BitVec.testBit_toNat, BitVec.toNat_sub, toNat_and_lowNibble, toNat_and_lowNibble,
    Nat.testBit_eq_decide_div_mod_eq, decide_eq_decide]
  omega

theorem halfCarryWideAdd_eq (x y : Word) :
    halfCarryWideAdd x y = decide (x.toNat % 4096 + y.toNat % 4096 ≥ 4096) := by
  rw [halfCarryWideAdd, toNat_and_lowTwelve, toNat_and_lowTwelve]
  exact testBit_top_eq_decide (by omega)

theorem halfCarryWideSub_eq (x y : Word) : halfCarryWideSub x y = decide (x.toNat % 4096 < y.toNat % 4096) := by
  rw [halfCarryWideSub, toNat_and_lowTwelve, toNat_and_lowTwelve]

theorem hcAdc_eq (a b : Byte) (c : Bool) : hcAdc a b c = decide (a.toNat % 16 + b.toNat % 16 + c.toNat ≥ 16) := by
  rw [hcAdc, toNat_and_lowNibble, toNat_and_lowNibble]; rfl

theorem hbSbc_eq (a b : Byte) (c : Bool) : hbSbc a b c = decide (a.toNat % 16 < b.toNat % 16 + c.toNat) := by
  rw [hbSbc, toNat_and_lowNibble, toNat_and_lowNibble]

/-- With carry 0 the three-term half carry is the two-term one (R13). -/
theorem hcAdc_false (a b : Byte) : hcAdc a b false = halfCarryAdd a b := by
  rw [hcAdc_eq, halfCarryAdd_eq]; rfl

/-- With carry 0 the three-term half borrow is the two-term one (R13). -/
theorem hbSbc_false (a b : Byte) : hbSbc a b false = halfCarrySub a b := by
  rw [hbSbc_eq, halfCarrySub_eq]; rfl

theorem carry8_eq (a b : Byte) (c : Bool) : carry8 a b c = decide (a.toNat + b.toNat + c.toNat ≥ 256) := rfl

theorem borrow8_eq (a b : Byte) (c : Bool) : borrow8 a b c = decide (a.toNat < b.toNat + c.toNat) := rfl

theorem carry16_eq (x y : Word) : carry16 x y = decide (x.toNat + y.toNat ≥ 65536) := rfl

/-- Settles O15: each helper by its own comparison, a half carry being the top bit of a sum of two masked operands. -/
theorem carryHelpersMeetTheirBoundary : Obligations.CarryHelpersMeetTheirBoundary := fun a b x y c =>
  ⟨halfCarryAdd_eq a b, halfCarrySub_eq a b, halfCarryWideAdd_eq x y, halfCarryWideSub_eq x y, hcAdc_eq a b c,
    hbSbc_eq a b c, hcAdc_false a b, hbSbc_false a b, carry8_eq a b c, borrow8_eq a b c, carry16_eq x y⟩

end Sys2Proof.Machine
end

section
/-! SUPPORT. The frame of a meaning (spec/00_scope.md R8): which registers, flags and bytes of memory an operation may
change. One rule per update of the state, two rules to combine them, then one rule per shared operation. -/

namespace Sys2Proof.Machine

/-- From `s` to `t` no register changes but those in `regs`, no flag but those in `flags`, no byte of memory but those at
`addrs`, and never the status or the parameters. -/
structure ChangesOnly (regs : List Reg) (flags : List Flag) (addrs : List Word) (s t : State) : Prop where
  reg : ∀ x, x ∉ regs → regValue t x = regValue s x
  flag : ∀ k, k ∉ flags → t.flag k = s.flag k
  mem : ∀ a, (∀ x ∈ addrs, a ≠ x.toNat) → Memory.read t.mem a = Memory.read s.mem a
  status : t.status = s.status
  cfg : t.cfg = s.cfg

/-! ## Combining changes -/

theorem ChangesOnly.refl {rs : List Reg} {ks : List Flag} {ws : List Word} (s : State) : ChangesOnly rs ks ws s s :=
  ⟨fun _ _ => rfl, fun _ _ => rfl, fun _ _ => rfl, rfl, rfl⟩

theorem ChangesOnly.trans {rs rs' : List Reg} {ks ks' : List Flag} {ws ws' : List Word} {s u t : State}
    (h : ChangesOnly rs ks ws s u) (h' : ChangesOnly rs' ks' ws' u t) :
    ChangesOnly (rs ++ rs') (ks ++ ks') (ws ++ ws') s t where
  reg x hx := by
    rw [List.mem_append, not_or] at hx
    exact (h'.reg x hx.2).trans (h.reg x hx.1)
  flag k hk := by
    rw [List.mem_append, not_or] at hk
    exact (h'.flag k hk.2).trans (h.flag k hk.1)
  mem a ha := by
    rw [List.forall_mem_append] at ha
    exact (h'.mem a ha.2).trans (h.mem a ha.1)
  status := h'.status.trans h.status
  cfg := h'.cfg.trans h.cfg

theorem ChangesOnly.mono {rs rs' : List Reg} {ks ks' : List Flag} {ws ws' : List Word} {s t : State}
    (h : ChangesOnly rs ks ws s t) (hr : rs ⊆ rs') (hk : ks ⊆ ks') (hw : ws ⊆ ws') : ChangesOnly rs' ks' ws' s t where
  reg x hx := h.reg x fun hm => hx (hr hm)
  flag k hm := h.flag k fun hm' => hm (hk hm')
  mem a ha := h.mem a fun x hx => ha x (hw hx)
  status := h.status
  cfg := h.cfg

/-! ## One rule per update of the state -/

/-- A change of registers other than F leaves every flag. -/
theorem changesOnly_of_regs {rs : List Reg} {s t : State} (hreg : ∀ x, x ∉ rs → regValue t x = regValue s x)
    (hf : t.f = s.f) (hmem : t.mem = s.mem) (hstatus : t.status = s.status) (hcfg : t.cfg = s.cfg) :
    ChangesOnly rs [] [] s t :=
  ⟨hreg, fun k _ => by rw [State.flag, hf]; rfl, fun _ _ => by rw [hmem], hstatus, hcfg⟩

theorem setA_changesOnly (s : State) (v : Byte) : ChangesOnly [.a] [] [] s (s.setA v) :=
  changesOnly_of_regs (by intro x; cases x <;> simp [regValue]) rfl rfl rfl rfl

theorem setBC_changesOnly (s : State) (v : Word) : ChangesOnly [.b, .c] [] [] s (s.setBC v) :=
  changesOnly_of_regs (by intro x; cases x <;> simp [regValue]) rfl rfl rfl rfl

theorem setDE_changesOnly (s : State) (v : Word) : ChangesOnly [.d, .e] [] [] s (s.setDE v) :=
  changesOnly_of_regs (by intro x; cases x <;> simp [regValue]) rfl rfl rfl rfl

theorem setHL_changesOnly (s : State) (v : Word) : ChangesOnly [.h, .l] [] [] s (s.setHL v) :=
  changesOnly_of_regs (by intro x; cases x <;> simp [regValue]) rfl rfl rfl rfl

theorem setSP_changesOnly (s : State) (v : Word) : ChangesOnly [.sp] [] [] s (s.setSP v) :=
  changesOnly_of_regs (by intro x; cases x <;> simp [regValue]) rfl rfl rfl rfl

theorem setPC_changesOnly (s : State) (v : Word) : ChangesOnly [.pc] [] [] s (s.setPC v) :=
  changesOnly_of_regs (by intro x; cases x <;> simp [regValue]) rfl rfl rfl rfl

theorem setIME_changesOnly (s : State) (b : Bool) : ChangesOnly [.ime] [] [] s { s with ime := b } :=
  changesOnly_of_regs (by intro x; cases x <;> simp [regValue]) rfl rfl rfl rfl

/-- A write of AF reaches every flag (R17). -/
theorem setAF_changesOnly (s : State) (v : Word) : ChangesOnly [.a, .f] [.z, .n, .h, .c] [] s (s.setAF v) :=
  ⟨by intro x; cases x <;> simp [regValue], by intro k; cases k <;> simp, fun _ _ => rfl, rfl, rfl⟩

/-- Writing named flags changes those flags alone (R22). -/
theorem writeFlags_changesOnly {s : State} {ks : List Flag} {fs : List (Flag × Bool)} (hks : fs.map Prod.fst = ks) :
    ChangesOnly [.f] ks [] s (s.writeFlags fs) where
  reg := by intro x; cases x <;> simp [regValue]
  flag k hk := State.flag_writeFlags_other s fs k fun _ hw hwk => hk (hks ▸ hwk ▸ List.mem_map_of_mem hw)
  mem _ _ := rfl
  status := rfl
  cfg := rfl

/-- A store of a byte changes that byte alone (R36). -/
theorem writeByte_changesOnly {s t : State} {a : Word} {v : Byte} (h : writeByte s a v = .ok t) :
    ChangesOnly [] [] [a] s t := by
  obtain ⟨-, rfl⟩ := writeByte_eq_ok.mp h
  exact ⟨fun x _ => by cases x <;> rfl, fun _ _ => rfl,
    fun b hb => Memory.read_write_other _ _ _ _ (hb a List.mem_cons_self), rfl, rfl⟩

/-! ## Operand forms -/

theorem writeR8_changesOnly {s t : State} {r : R8} {v : Byte} (h : writeR8 s r v = .ok t) :
    ChangesOnly (regsOfR8 r) [] (storeOfR8 s r) s t := by
  cases r
  case atHL => exact writeByte_changesOnly h
  all_goals
    cases h
    exact changesOnly_of_regs (by intro x; cases x <;> simp [regsOfR8, regValue]) rfl rfl rfl rfl

theorem writeRR_changesOnly (s : State) (p : RR) (v : Word) : ChangesOnly (regsOfRR p) [] [] s (writeRR s p v) := by
  cases p
  · exact setBC_changesOnly s v
  · exact setDE_changesOnly s v
  · exact setHL_changesOnly s v
  · exact setSP_changesOnly s v

theorem writeQQ_changesOnly (s : State) (q : QQ) (v : Word) :
    ChangesOnly (regsOfQQ q) (writtenFlags (.pop q)) [] s (writeQQ s q v) := by
  cases q
  · exact setBC_changesOnly s v
  · exact setDE_changesOnly s v
  · exact setHL_changesOnly s v
  · exact setAF_changesOnly s v

theorem indUpdate_changesOnly (s : State) (p : Ind) : ChangesOnly (regsOfInd p) [] [] s (indUpdate s p) := by
  cases p
  · exact .refl s
  · exact .refl s
  · exact setHL_changesOnly s _
  · exact setHL_changesOnly s _

/-! ## The stack -/

theorem push16_changesOnly {s t : State} {v : Word} (h : push16 s v = .ok t) :
    ChangesOnly [.sp] [] [s.sp - 1, s.sp - 2] s t := by
  obtain ⟨u, hu, h⟩ := bind_eq_ok.mp h
  have hsp : u.sp - 1 = s.sp - 2 := by
    obtain ⟨-, rfl⟩ := writeByte_eq_ok.mp hu
    rw [State.setSP_sp]
    bv_omega
  have hpush : ChangesOnly [.sp, .sp] [] [s.sp - 1, u.sp - 1] s t :=
    ((setSP_changesOnly s _).trans (writeByte_changesOnly hu)).trans
      ((setSP_changesOnly u _).trans (writeByte_changesOnly h))
  rw [hsp] at hpush
  exact hpush.mono (by simp) (by simp) (by simp)

theorem pop16_changesOnly {s t : State} {v : Word} (h : pop16 s = .ok (v, t)) : ChangesOnly [.sp] [] [] s t := by
  obtain ⟨-, -, -, rfl⟩ := pop16_eq_ok.mp h
  exact setSP_changesOnly s _

/-! ## The shared operations of the meanings -/

/-- An operand read, its result written back, then flags: the shape of INC, DEC and the CB rotates. -/
theorem updateR8_changesOnly {r : R8} {s t : State} {res : Byte → Byte} {fs : Byte → List (Flag × Bool)} {ks : List Flag}
    (hks : ∀ v, (fs v).map Prod.fst = ks)
    (h : (do let v ← readR8 s r; let u ← writeR8 s r (res v); .ok (u.writeFlags (fs v))) = .ok t) :
    ChangesOnly (.f :: regsOfR8 r) ks (storeOfR8 s r) s t := by
  obtain ⟨v, -, h⟩ := bind_eq_ok.mp h
  obtain ⟨u, hu, h⟩ := bind_eq_ok.mp h
  cases h
  exact ((writeR8_changesOnly hu).trans (writeFlags_changesOnly (hks v))).mono (by simp) (by simp) (by simp)

theorem incR8_changesOnly {r : R8} {s t : State} (h : incR8 r s = .ok t) :
    ChangesOnly (.f :: regsOfR8 r) [.z, .n, .h] (storeOfR8 s r) s t :=
  updateR8_changesOnly (fun _ => rfl) h

theorem decR8_changesOnly {r : R8} {s t : State} (h : decR8 r s = .ok t) :
    ChangesOnly (.f :: regsOfR8 r) [.z, .n, .h] (storeOfR8 s r) s t :=
  updateR8_changesOnly (fun _ => rfl) h

theorem cbR8_changesOnly {o : CbOp} {r : R8} {s t : State} (h : cbR8 o r s = .ok t) :
    ChangesOnly (.f :: regsOfR8 r) [.z, .n, .h, .c] (storeOfR8 s r) s t :=
  updateR8_changesOnly (fun _ => rfl) h

theorem bitTest_changesOnly {i : Fin 8} {r : R8} {s t : State} (h : bitTest i r s = .ok t) :
    ChangesOnly [.f] [.z, .n, .h] [] s t := by
  obtain ⟨v, -, h⟩ := bind_eq_ok.mp h
  cases h
  exact writeFlags_changesOnly rfl

theorem bitReset_changesOnly {i : Fin 8} {r : R8} {s t : State} (h : bitReset i r s = .ok t) :
    ChangesOnly (regsOfR8 r) [] (storeOfR8 s r) s t := by
  obtain ⟨v, -, hw⟩ := bitReset_eq_ok.mp h
  exact writeR8_changesOnly hw

theorem bitSet_changesOnly {i : Fin 8} {r : R8} {s t : State} (h : bitSet i r s = .ok t) :
    ChangesOnly (regsOfR8 r) [] (storeOfR8 s r) s t := by
  obtain ⟨v, -, hw⟩ := bitSet_eq_ok.mp h
  exact writeR8_changesOnly hw

/-- Row 0xCB changes what the CB entry it selects changes (R164). -/
theorem runCBEntry_changesOnly {op : Byte} {s t : State} (h : runCBEntry op s = .ok t) :
    ChangesOnly (writtenRegs (.prefixCB op)) (writtenFlags (.prefixCB op)) (storedAddrs s (.prefixCB op)) s t := by
  unfold runCBEntry at h
  simp only [writtenRegs, writtenFlags, storedAddrs]
  split at h <;> rename_i hx <;> simp only [hx]
  · exact cbR8_changesOnly h
  · exact bitTest_changesOnly h
  · exact bitReset_changesOnly h
  · exact bitSet_changesOnly h

/-- CP writes the flags alone; the other ALU operations write A too (R77, R85). -/
theorem aluOp_changesOnly (o : AluOp) (v : Byte) (s : State) :
    ChangesOnly (if o = .cp then [.f] else [.a, .f]) [.z, .n, .h, .c] [] s (aluOp o v s) := by
  cases o
  case cp => exact writeFlags_changesOnly rfl
  all_goals exact (setA_changesOnly s _).trans (writeFlags_changesOnly rfl)

theorem load_changesOnly {dst src : R8} {s t : State} (h : load dst src s = .ok t) :
    ChangesOnly (regsOfR8 dst) [] (storeOfR8 s dst) s t := by
  obtain ⟨v, -, hw⟩ := load_eq_ok.mp h
  exact writeR8_changesOnly hw

theorem storeInd_changesOnly {p : Ind} {s t : State} (h : storeInd p s = .ok t) :
    ChangesOnly (regsOfInd p) [] [indAddr s p] s t := by
  obtain ⟨u, hu, h⟩ := bind_eq_ok.mp h
  cases h
  exact (writeByte_changesOnly hu).trans (indUpdate_changesOnly u p)

theorem loadInd_changesOnly {p : Ind} {s t : State} (h : loadInd p s = .ok t) :
    ChangesOnly (.a :: regsOfInd p) [] [] s t := by
  obtain ⟨-, rfl⟩ := loadInd_eq_ok.mp h
  exact (setA_changesOnly s _).trans (indUpdate_changesOnly _ p)

theorem loadA_changesOnly {a : Word} {s t : State} (h : loadA a s = .ok t) : ChangesOnly [.a] [] [] s t := by
  obtain ⟨-, rfl⟩ := loadA_eq_ok.mp h
  exact setA_changesOnly s _

theorem writeWord_changesOnly {a v : Word} {s t : State} (h : writeWord s a v = .ok t) :
    ChangesOnly [] [] [a, a + 1] s t := by
  obtain ⟨u, hu, h⟩ := bind_eq_ok.mp h
  exact (writeByte_changesOnly hu).trans (writeByte_changesOnly h)

theorem popQQ_changesOnly {q : QQ} {s t : State} (h : popQQ q s = .ok t) :
    ChangesOnly (.sp :: regsOfQQ q) (writtenFlags (.pop q)) [] s t := by
  obtain ⟨⟨v, u⟩, hu, h⟩ := bind_eq_ok.mp h
  cases h
  exact (pop16_changesOnly hu).trans (writeQQ_changesOnly u q v)

theorem call_changesOnly {a : Word} {s t : State} (h : call a s = .ok t) :
    ChangesOnly [.pc, .sp] [] [s.sp - 1, s.sp - 2] s t := by
  obtain ⟨u, hu, h⟩ := bind_eq_ok.mp h
  cases h
  exact ((push16_changesOnly hu).trans (setPC_changesOnly u a)).mono (by simp) (by simp) (by simp)

theorem ret_changesOnly {s t : State} (h : ret s = .ok t) : ChangesOnly [.pc, .sp] [] [] s t := by
  obtain ⟨⟨v, u⟩, hu, h⟩ := bind_eq_ok.mp h
  cases h
  exact ((pop16_changesOnly hu).trans (setPC_changesOnly u v)).mono (by simp) (by simp) (by simp)

theorem retInterrupt_changesOnly {s t : State} (h : retInterrupt s = .ok t) :
    ChangesOnly [.pc, .sp, .ime] [] [] s t := by
  obtain ⟨u, hu, rfl⟩ := retInterrupt_eq_ok.mp h
  exact (ret_changesOnly hu).trans (setIME_changesOnly u true)

/-- A conditional handler changes at most what its handler changes (R144). -/
theorem whenCond_changesOnly {k : Cond} {x : State → Except Fault State} {s t : State} {rs : List Reg}
    {ks : List Flag} {ws : List Word} (h : whenCond k x s = .ok t) (hx : x s = .ok t → ChangesOnly rs ks ws s t) :
    ChangesOnly rs ks ws s t := by
  rcases whenCond_eq_ok.mp h with ⟨-, h⟩ | ⟨-, rfl⟩
  · exact hx h
  · exact .refl t

/-- A conditional call stores only when its condition holds (R144). -/
theorem callCond_changesOnly {k : Cond} {a : Word} {s t : State} (h : whenCond k (call a) s = .ok t) :
    ChangesOnly [.pc, .sp] [] (if condHolds s k then [s.sp - 1, s.sp - 2] else []) s t := by
  rcases whenCond_eq_ok.mp h with ⟨hk, h⟩ | ⟨hk, rfl⟩
  · rw [if_pos hk]; exact call_changesOnly h
  · exact .refl t

end Sys2Proof.Machine
end

section
/-! SUPPORT. The frame statements of spec/00_scope.md R8, from one frame per form. -/

namespace Sys2Proof.Machine

/-- Every LD but the place of LD (HL),(HL), which is HALT, runs the load (R159). -/
theorem handler_ld {dst src : R8} (h : ¬ (dst = .atHL ∧ src = .atHL)) : handler (.ld dst src) = load dst src := by
  rw [handler]
  simpa using h

/-- Every form's shared operation changes no more than the form's lists name (R8). -/
theorem handler_changesOnly {x : Form} {s t : State} (h : handler x s = .ok t) :
    ChangesOnly (writtenRegs x) (writtenFlags x) (storedAddrs s x) s t := by
  cases x with
  | nop => cases h; exact .refl s
  | ldRR p n => cases h; exact writeRR_changesOnly s p n
  | incRR p | decRR p => cases h; exact writeRR_changesOnly s p _
  | addHL p => cases h; exact (setHL_changesOnly s _).trans (writeFlags_changesOnly rfl)
  | ldIndA p => exact storeInd_changesOnly h
  | ldAInd p => exact loadInd_changesOnly h
  | inc r => exact incR8_changesOnly h
  | dec r => exact decR8_changesOnly h
  | ldImm r n => exact writeR8_changesOnly h
  | accRot o | daa | cpl => cases h; exact (setA_changesOnly s _).trans (writeFlags_changesOnly rfl)
  | scf | ccf => cases h; exact writeFlags_changesOnly rfl
  | ldFarSP a => exact writeWord_changesOnly h
  | stop n | halt | di | ei | reserved y => cases h
  | jr e | jp a | jpHL => cases h; exact setPC_changesOnly s _
  | jrCond k e | jpCond k a => exact whenCond_changesOnly h fun hj => by cases hj; exact setPC_changesOnly s _
  | ld dst src =>
    by_cases hld : dst = .atHL ∧ src = .atHL
    · obtain ⟨rfl, rfl⟩ := hld; cases h
    · exact load_changesOnly (handler_ld hld ▸ h)
  | alu o r =>
    obtain ⟨v, -, rfl⟩ := aluR8_eq_ok.mp h
    exact aluOp_changesOnly o v s
  | aluImm o n => cases h; exact aluOp_changesOnly o n s
  | retCond k => exact whenCond_changesOnly h ret_changesOnly
  | callCond k a => exact callCond_changesOnly h
  | pop q => exact popQQ_changesOnly h
  | push q => exact push16_changesOnly h
  | rst n | call a => exact call_changesOnly h
  | ret => exact ret_changesOnly h
  | reti => exact retInterrupt_changesOnly h
  | prefixCB op => exact runCBEntry_changesOnly h
  | ldhStore n | ldCStore | ldFarStore a => exact writeByte_changesOnly h
  | ldhLoad n | ldCLoad | ldFarLoad a => exact loadA_changesOnly h
  | addSP e => cases h; exact (setSP_changesOnly s _).trans (writeFlags_changesOnly rfl)
  | ldHLSP e => cases h; exact (setHL_changesOnly s _).trans (writeFlags_changesOnly rfl)
  | ldSPHL => cases h; exact setSP_changesOnly s _
  | cb o r => exact cbR8_changesOnly h
  | bit i r => exact bitTest_changesOnly h
  | res i r => exact bitReset_changesOnly h
  | set i r => exact bitSet_changesOnly h

/-- Every instruction that answers a next state changes no more than its form's lists name (R8). -/
theorem exec_changesOnly {i : Instr} {s t : State} (h : exec i s = .next t) :
    ChangesOnly (writtenRegs i.form) (writtenFlags i.form) (storedAddrs s i.form) s t :=
  handler_changesOnly (finish_eq_next.mp (exec_eq_handler i s ▸ h))

/-- Settles O50: the memory part of the frame. -/
theorem memoryChangesOnlyAtStoredAddresses : Obligations.MemoryChangesOnlyAtStoredAddresses :=
  fun _ _ _ a h ha => (exec_changesOnly h).mem a ha

/-- Settles O51: the register part of the frame, with the status and the parameters. -/
theorem registersChangeOnlyAsTheRuleSays : Obligations.RegistersChangeOnlyAsTheRuleSays :=
  fun _ _ _ h => ⟨(exec_changesOnly h).reg, (exec_changesOnly h).status, (exec_changesOnly h).cfg⟩

/-- Settles O52: the flag part of the frame. -/
theorem flagsChangeOnlyAsTheRuleSays : Obligations.FlagsChangeOnlyAsTheRuleSays :=
  fun _ _ _ k h hk => (exec_changesOnly h).flag k hk

end Sys2Proof.Machine
end

section
/-! SUPPORT. The invariant of the machine's states (spec/10_state.md R21, R27, spec/00_scope.md R5) is kept: one rule per
update of the state, then one rule per shared operation, then the case split over the forms. -/

namespace Sys2Proof.Machine

/-! ## One rule per update of the state -/

/-- The invariant reads F, memory and the parameters alone. -/
theorem State.Inv.of_frame {s t : State} (hs : s.Inv) (hf : t.f = s.f) (hmem : t.mem = s.mem) (hcfg : t.cfg = s.cfg) :
    t.Inv where
  reservedLow := by rw [hf]; exact hs.reservedLow
  config := by rw [hcfg]; exact hs.config
  canonical := by rw [hmem]; exact hs.canonical
  bounded := by rw [hmem, hcfg]; exact hs.bounded

/-- Writing flags keeps F[3:0] = 0 (R22). -/
theorem State.Inv.writeFlags {s : State} (hs : s.Inv) (ws : List (Flag × Bool)) : (s.writeFlags ws).Inv :=
  ⟨s.writeFlags_low ws hs.reservedLow, hs.config, hs.canonical, hs.bounded⟩

theorem State.Inv.setA {s : State} (hs : s.Inv) (v : Byte) : (s.setA v).Inv := hs.of_frame rfl rfl rfl

theorem State.Inv.setHL {s : State} (hs : s.Inv) (v : Word) : (s.setHL v).Inv := hs.of_frame rfl rfl rfl

theorem State.Inv.setSP {s : State} (hs : s.Inv) (v : Word) : (s.setSP v).Inv := hs.of_frame rfl rfl rfl

theorem State.Inv.setPC {s : State} (hs : s.Inv) (v : Word) : (s.setPC v).Inv := hs.of_frame rfl rfl rfl

theorem State.setAF_low (s : State) (v : Word) : (s.setAF v).f &&& 0x0F = 0 := by
  simp [BitVec.and_assoc]

/-- A write of AF discards the low four bits (R17). -/
theorem State.Inv.setAF {s : State} (hs : s.Inv) (v : Word) : (s.setAF v).Inv :=
  ⟨s.setAF_low v, hs.config, hs.canonical, hs.bounded⟩

/-! ## Operand forms and the stack -/

theorem State.Inv.writeByte {s t : State} (hs : s.Inv) {a : Word} {v : Byte} (h : writeByte s a v = .ok t) : t.Inv := by
  obtain ⟨ha, rfl⟩ := writeByte_eq_ok.mp h
  exact hs.write v ha

theorem State.Inv.writeWord {s t : State} (hs : s.Inv) {a v : Word} (h : writeWord s a v = .ok t) : t.Inv := by
  obtain ⟨u, hu, h⟩ := bind_eq_ok.mp h
  exact (hs.writeByte hu).writeByte h

theorem State.Inv.writeR8 {s t : State} (hs : s.Inv) {r : R8} {v : Byte} (h : writeR8 s r v = .ok t) : t.Inv := by
  cases r
  case atHL => exact hs.writeByte h
  all_goals
    cases h
    exact hs.of_frame rfl rfl rfl

theorem State.Inv.writeRR {s : State} (hs : s.Inv) (p : RR) (v : Word) : (writeRR s p v).Inv := by
  cases p <;> exact hs.of_frame rfl rfl rfl

theorem State.Inv.writeQQ {s : State} (hs : s.Inv) (q : QQ) (v : Word) : (writeQQ s q v).Inv := by
  cases q
  case af => exact hs.setAF v
  all_goals exact hs.of_frame rfl rfl rfl

theorem State.Inv.indUpdate {s : State} (hs : s.Inv) (p : Ind) : (indUpdate s p).Inv := by
  cases p <;> exact hs.of_frame rfl rfl rfl

theorem State.Inv.push16 {s t : State} (hs : s.Inv) {v : Word} (h : push16 s v = .ok t) : t.Inv := by
  obtain ⟨u, hu, h⟩ := bind_eq_ok.mp h
  exact (((hs.setSP _).writeByte hu).setSP _).writeByte h

theorem State.Inv.pop16 {s t : State} (hs : s.Inv) {v : Word} (h : pop16 s = .ok (v, t)) : t.Inv := by
  obtain ⟨-, -, -, rfl⟩ := pop16_eq_ok.mp h
  exact hs.setSP _

/-! ## The shared operations of the meanings -/

/-- An operand read, its result written back, then flags: the shape of INC, DEC and the CB rotates. -/
theorem State.Inv.updateR8 {s t : State} (hs : s.Inv) {r : R8} {res : Byte → Byte} {fs : Byte → List (Flag × Bool)}
    (h : (do let v ← readR8 s r; let u ← Machine.writeR8 s r (res v); .ok (u.writeFlags (fs v))) = .ok t) : t.Inv := by
  obtain ⟨v, -, h⟩ := bind_eq_ok.mp h
  obtain ⟨u, hu, h⟩ := bind_eq_ok.mp h
  cases h
  exact (hs.writeR8 hu).writeFlags _

theorem State.Inv.cbR8 {s t : State} (hs : s.Inv) {o : CbOp} {r : R8} (h : cbR8 o r s = .ok t) : t.Inv :=
  hs.updateR8 h

theorem State.Inv.bitTest {s t : State} (hs : s.Inv) {i : Fin 8} {r : R8} (h : bitTest i r s = .ok t) : t.Inv := by
  obtain ⟨v, -, h⟩ := bind_eq_ok.mp h
  cases h
  exact hs.writeFlags _

theorem State.Inv.bitReset {s t : State} (hs : s.Inv) {i : Fin 8} {r : R8} (h : bitReset i r s = .ok t) : t.Inv := by
  obtain ⟨v, -, hw⟩ := bitReset_eq_ok.mp h
  exact hs.writeR8 hw

theorem State.Inv.bitSet {s t : State} (hs : s.Inv) {i : Fin 8} {r : R8} (h : bitSet i r s = .ok t) : t.Inv := by
  obtain ⟨v, -, hw⟩ := bitSet_eq_ok.mp h
  exact hs.writeR8 hw

/-- Row 0xCB keeps the invariant because the CB entry it selects does (R164). -/
theorem State.Inv.runCBEntry {s t : State} (hs : s.Inv) {op : Byte} (h : runCBEntry op s = .ok t) : t.Inv := by
  unfold Machine.runCBEntry at h
  split at h
  · exact hs.cbR8 h
  · exact hs.bitTest h
  · exact hs.bitReset h
  · exact hs.bitSet h

/-- An ALU operation changes A, and F to one with F[3:0] = 0. -/
theorem State.Inv.aluOp {s : State} (hs : s.Inv) (o : AluOp) (v : Byte) : (aluOp o v s).Inv := by
  rw [aluOp_frame]
  exact ⟨aluOp_low o v s, hs.config, hs.canonical, hs.bounded⟩

theorem State.Inv.load {s t : State} (hs : s.Inv) {dst src : R8} (h : load dst src s = .ok t) : t.Inv := by
  obtain ⟨v, -, hw⟩ := load_eq_ok.mp h
  exact hs.writeR8 hw

theorem State.Inv.storeInd {s t : State} (hs : s.Inv) {p : Ind} (h : storeInd p s = .ok t) : t.Inv := by
  obtain ⟨ha, rfl⟩ := storeInd_eq_ok.mp h
  exact (hs.write _ ha).indUpdate p

theorem State.Inv.loadInd {s t : State} (hs : s.Inv) {p : Ind} (h : loadInd p s = .ok t) : t.Inv := by
  obtain ⟨-, rfl⟩ := loadInd_eq_ok.mp h
  exact (hs.setA _).indUpdate p

theorem State.Inv.loadA {s t : State} (hs : s.Inv) {a : Word} (h : loadA a s = .ok t) : t.Inv := by
  obtain ⟨-, rfl⟩ := loadA_eq_ok.mp h
  exact hs.setA _

theorem State.Inv.popQQ {s t : State} (hs : s.Inv) {q : QQ} (h : popQQ q s = .ok t) : t.Inv := by
  obtain ⟨⟨v, u⟩, hu, h⟩ := bind_eq_ok.mp h
  cases h
  exact (hs.pop16 hu).writeQQ q v

theorem State.Inv.call {s t : State} (hs : s.Inv) {a : Word} (h : call a s = .ok t) : t.Inv := by
  obtain ⟨u, hu, h⟩ := bind_eq_ok.mp h
  cases h
  exact (hs.push16 hu).setPC a

theorem State.Inv.ret {s t : State} (hs : s.Inv) (h : ret s = .ok t) : t.Inv := by
  obtain ⟨⟨v, u⟩, hu, h⟩ := bind_eq_ok.mp h
  cases h
  exact (hs.pop16 hu).setPC v

theorem State.Inv.retInterrupt {s t : State} (hs : s.Inv) (h : retInterrupt s = .ok t) : t.Inv := by
  obtain ⟨u, hu, rfl⟩ := retInterrupt_eq_ok.mp h
  exact (hs.ret hu).of_frame rfl rfl rfl

/-- A conditional handler keeps the invariant when its handler does (R144). -/
theorem State.Inv.whenCond {s t : State} (hs : s.Inv) {k : Cond} {x : State → Except Fault State}
    (h : whenCond k x s = .ok t) (hx : x s = .ok t → t.Inv) : t.Inv := by
  rcases whenCond_eq_ok.mp h with ⟨-, h⟩ | ⟨-, rfl⟩
  · exact hx h
  · exact hs

/-! ## Every form, every step -/

theorem State.Inv.handler {x : Form} {s t : State} (hs : s.Inv) (h : handler x s = .ok t) : t.Inv := by
  cases x with
  | nop => cases h; exact hs
  | ldRR p n | incRR p | decRR p => cases h; exact hs.writeRR p _
  | addHL p | ldHLSP e => cases h; exact (hs.setHL _).writeFlags _
  | ldIndA p => exact hs.storeInd h
  | ldAInd p => exact hs.loadInd h
  | inc r | dec r => exact hs.updateR8 h
  | ldImm r n => exact hs.writeR8 h
  | accRot o | daa | cpl => cases h; exact (hs.setA _).writeFlags _
  | scf | ccf => cases h; exact hs.writeFlags _
  | ldFarSP a => exact hs.writeWord h
  | stop n | halt | di | ei | reserved y => cases h
  | jr e | jp a | jpHL => cases h; exact hs.setPC _
  | jrCond k e | jpCond k a => exact hs.whenCond h fun hj => by cases hj; exact hs.setPC _
  | ld dst src =>
    by_cases hld : dst = .atHL ∧ src = .atHL
    · obtain ⟨rfl, rfl⟩ := hld; cases h
    · exact hs.load (handler_ld hld ▸ h)
  | alu o r =>
    obtain ⟨v, -, rfl⟩ := aluR8_eq_ok.mp h
    exact hs.aluOp o v
  | aluImm o n => cases h; exact hs.aluOp o n
  | retCond k => exact hs.whenCond h hs.ret
  | callCond k a => exact hs.whenCond h hs.call
  | pop q => exact hs.popQQ h
  | push q => exact hs.push16 h
  | rst n | call a => exact hs.call h
  | ret => exact hs.ret h
  | reti => exact hs.retInterrupt h
  | prefixCB op => exact hs.runCBEntry h
  | ldhStore n | ldCStore | ldFarStore a => exact hs.writeByte h
  | ldhLoad n | ldCLoad | ldFarLoad a => exact hs.loadA h
  | addSP e => cases h; exact (hs.setSP _).writeFlags _
  | ldSPHL => cases h; exact hs.setSP _
  | cb o r => exact hs.cbR8 h
  | bit i r => exact hs.bitTest h
  | res i r => exact hs.bitReset h
  | set i r => exact hs.bitSet h

/-- Settles O47: the handler of every form keeps the invariant, and the step's PC advance does too (R67). -/
theorem stepKeepsTheInvariant : Obligations.StepKeepsTheInvariant := fun _ _ hs h => by
  obtain ⟨-, x, -, hx⟩ := step_eq_next h
  exact (hs.setPC x.next).handler hx

/-- Settles O48: the invariant of the reset state, then its fixed fields. -/
theorem resetMeetsTheInvariant : Obligations.ResetMeetsTheInvariant :=
  ⟨⟨by decide, by decide, State.reset_mem_wf, fun _ hx => absurd hx List.not_mem_nil⟩, rfl, rfl, rfl, rfl⟩

end Sys2Proof.Machine
end

section
/-! SUPPORT. IME is read by nothing (spec/10_state.md R25): one rule per read and per write of the state, then one rule per
shared operation, then the case split over the forms. -/

namespace Sys2Proof.Machine

/-- Two outcomes of a handler that differ at most in IME: the same fault, or states equal but for IME. -/
inductive SameButIME : Except Fault State → Except Fault State → Prop
  | ok (t : State) (b : Bool) : SameButIME (.ok t) (.ok { t with ime := b })
  | error (f : Fault) : SameButIME (.error f) (.error f)

/-- A handler that does not read IME. -/
def IgnoresIME (x : State → Except Fault State) : Prop := ∀ s b, SameButIME (x s) (x { s with ime := b })

/-! ## Combining handlers -/

theorem SameButIME.bind {x y : Except Fault State} {k l : State → Except Fault State} (h : SameButIME x y)
    (hk : ∀ t b, SameButIME (k t) (l { t with ime := b })) : SameButIME (x >>= k) (y >>= l) := by
  cases h with
  | ok t b => exact hk t b
  | error f => exact .error f

/-- After a read that gives the same in both states, it is the rest that counts. -/
theorem SameButIME.read {α : Type} {x y : Except Fault α} {k l : α → Except Fault State} (h : y = x)
    (hk : ∀ v, SameButIME (k v) (l v)) : SameButIME (x >>= k) (y >>= l) := by
  subst h
  cases y with
  | ok v => exact hk v
  | error f => exact .error f

theorem condHolds_withIME (k : Cond) (s : State) (b : Bool) : condHolds { s with ime := b } k = condHolds s k := by
  cases k <;> rfl

/-- A conditional handler reads no IME when its handler reads none (R144). -/
theorem IgnoresIME.whenCond {x : State → Except Fault State} (hx : IgnoresIME x) (k : Cond) :
    IgnoresIME (whenCond k x) := fun s b => by
  simp only [Machine.whenCond, condHolds_withIME]
  split
  · exact hx s b
  · exact .ok s b

/-! ## Accesses, operand forms and the stack -/

theorem writeByte_ignoresIME (a : Word) (v : Byte) : IgnoresIME (writeByte · a v) := fun s b => by
  by_cases h : a.toNat < s.cfg.memSize
  · simp only [writeByte_ok h, writeByte_ok (s := { s with ime := b }) h]
    exact .ok _ b
  · simp only [writeByte_error h, writeByte_error (s := { s with ime := b }) h]
    exact .error _

theorem writeWord_ignoresIME (a v : Word) : IgnoresIME (writeWord · a v) := fun s b =>
  (writeByte_ignoresIME a _ s b).bind (writeByte_ignoresIME (a + 1) _)

theorem readR8_withIME (r : R8) (s : State) (b : Bool) : readR8 { s with ime := b } r = readR8 s r := by
  cases r <;> rfl

theorem writeR8_ignoresIME (r : R8) (v : Byte) : IgnoresIME (writeR8 · r v) := fun s b => by
  cases r
  case atHL => exact writeByte_ignoresIME s.hl v s b
  all_goals exact .ok _ b

theorem writeRR_ignoresIME (p : RR) (f : Word → Word) : IgnoresIME fun s => .ok (writeRR s p (f (readRR s p))) :=
  fun s b => by cases p <;> exact .ok _ b

theorem push16_ignoresIME (v : Word) : IgnoresIME (push16 · v) := fun s b =>
  (writeByte_ignoresIME _ _ (s.setSP (s.sp - 1)) b).bind fun t c =>
    writeByte_ignoresIME _ _ (t.setSP (t.sp - 1)) c

/-- A pop, then a handler that takes the popped word and the state. -/
theorem SameButIME.pop16 {s : State} {b : Bool} {k : Word × State → Except Fault State}
    (hk : ∀ v t, SameButIME (k (v, t)) (k (v, { t with ime := b }))) :
    SameButIME (pop16 s >>= k) (pop16 { s with ime := b } >>= k) := by
  simp only [Machine.pop16, bind_assoc]
  exact .read (x := readByte s s.sp) rfl fun lo => .read (x := readByte s (s.sp + 1)) rfl fun hi => hk (joinBytes hi lo) _

/-! ## The shared operations of the meanings -/

/-- A result written back, then flags: how INC, DEC and the CB rotates end. -/
theorem writeR8_writeFlags_ignoresIME (r : R8) (v : Byte) (ws : List (Flag × Bool)) :
    IgnoresIME fun s => writeR8 s r v >>= fun u => .ok (u.writeFlags ws) := fun s b =>
  (writeR8_ignoresIME r v s b).bind fun u c => .ok (u.writeFlags ws) c

theorem incR8_ignoresIME (r : R8) : IgnoresIME (incR8 r) := fun s b =>
  .read (readR8_withIME r s b) fun _ => writeR8_writeFlags_ignoresIME r _ _ s b

theorem decR8_ignoresIME (r : R8) : IgnoresIME (decR8 r) := fun s b =>
  .read (readR8_withIME r s b) fun _ => writeR8_writeFlags_ignoresIME r _ _ s b

theorem cbR8_ignoresIME (o : CbOp) (r : R8) : IgnoresIME (cbR8 o r) := fun s b =>
  .read (readR8_withIME r s b) fun _ => writeR8_writeFlags_ignoresIME r _ _ s b

theorem bitTest_ignoresIME (i : Fin 8) (r : R8) : IgnoresIME (bitTest i r) := fun s b =>
  .read (readR8_withIME r s b) fun _ => .ok (s.writeFlags _) b

theorem bitReset_ignoresIME (i : Fin 8) (r : R8) : IgnoresIME (bitReset i r) := fun s b =>
  .read (readR8_withIME r s b) fun _ => writeR8_ignoresIME r _ s b

theorem bitSet_ignoresIME (i : Fin 8) (r : R8) : IgnoresIME (bitSet i r) := fun s b =>
  .read (readR8_withIME r s b) fun _ => writeR8_ignoresIME r _ s b

/-- Row 0xCB reads no IME because no CB entry does (R164). -/
theorem runCBEntry_ignoresIME (op : Byte) : IgnoresIME (runCBEntry op) := fun s b => by
  unfold runCBEntry
  split
  · exact cbR8_ignoresIME _ _ s b
  · exact bitTest_ignoresIME _ _ s b
  · exact bitReset_ignoresIME _ _ s b
  · exact bitSet_ignoresIME _ _ s b

theorem addHL_ignoresIME (p : RR) : IgnoresIME (addHL p) := fun s b => by cases p <;> exact .ok _ b

theorem aluOp_ignoresIME (o : AluOp) (v : Byte) : IgnoresIME fun s => .ok (aluOp o v s) := fun s b => by
  cases o <;> exact .ok _ b

theorem aluR8_ignoresIME (o : AluOp) (r : R8) : IgnoresIME (aluR8 o r) := fun s b =>
  .read (readR8_withIME r s b) fun v => aluOp_ignoresIME o v s b

theorem load_ignoresIME (dst src : R8) : IgnoresIME (load dst src) := fun s b =>
  .read (readR8_withIME src s b) fun v => writeR8_ignoresIME dst v s b

theorem storeInd_ignoresIME (p : Ind) : IgnoresIME (storeInd p) := fun s b => by
  cases p <;> exact (writeByte_ignoresIME _ s.a s b).bind fun _ c => .ok _ c

theorem loadInd_ignoresIME (p : Ind) : IgnoresIME (loadInd p) := fun s b => by
  cases p <;> exact .read rfl fun _ => .ok _ b

theorem loadA_ignoresIME (a : Word) : IgnoresIME (loadA a) := fun s b =>
  .read (x := readByte s a) rfl fun v => .ok (s.setA v) b

theorem pushQQ_ignoresIME (q : QQ) : IgnoresIME (pushQQ q) := fun s b => by
  cases q <;> exact push16_ignoresIME _ s b

theorem popQQ_ignoresIME (q : QQ) : IgnoresIME (popQQ q) := fun s b =>
  .pop16 fun v t => by cases q <;> exact .ok _ b

theorem call_ignoresIME (a : Word) : IgnoresIME (call a) := fun s b =>
  (push16_ignoresIME s.pc s b).bind fun t c => .ok (t.setPC a) c

theorem ret_ignoresIME : IgnoresIME ret := fun _ b => .pop16 fun v t => .ok (t.setPC v) b

/-- RETI writes IME and does not read it (R25, R156). -/
theorem retInterrupt_ignoresIME : IgnoresIME retInterrupt := fun s b =>
  (ret_ignoresIME s b).bind fun t _ => .ok { t with ime := true } true

/-! ## Every form, every step -/

theorem handler_ignoresIME (x : Form) : IgnoresIME (handler x) := by
  cases x with
  | nop | accRot o | daa | cpl | scf | ccf | jr e | jp a | jpHL | addSP e | ldHLSP e | ldSPHL =>
    exact fun s b => .ok _ b
  | ldRR p n => exact writeRR_ignoresIME p fun _ => n
  | incRR p => exact writeRR_ignoresIME p (· + 1)
  | decRR p => exact writeRR_ignoresIME p (· - 1)
  | addHL p => exact addHL_ignoresIME p
  | ldIndA p => exact storeInd_ignoresIME p
  | ldAInd p => exact loadInd_ignoresIME p
  | inc r => exact incR8_ignoresIME r
  | dec r => exact decR8_ignoresIME r
  | ldImm r n => exact writeR8_ignoresIME r n
  | ldFarSP a => exact fun s b => writeWord_ignoresIME a s.sp s b
  | stop n | halt | di | ei | reserved y => exact fun _ _ => .error _
  | jrCond k e => exact .whenCond (x := jumpRel e) (fun s b => .ok _ b) k
  | jpCond k a => exact .whenCond (x := jump a) (fun s b => .ok _ b) k
  | ld dst src =>
    by_cases hld : dst = .atHL ∧ src = .atHL
    · obtain ⟨rfl, rfl⟩ := hld
      exact fun _ _ => .error _
    · rw [handler_ld hld]
      exact load_ignoresIME dst src
  | alu o r => exact aluR8_ignoresIME o r
  | aluImm o n => exact aluOp_ignoresIME o n
  | retCond k => exact ret_ignoresIME.whenCond k
  | callCond k a => exact (call_ignoresIME a).whenCond k
  | pop q => exact popQQ_ignoresIME q
  | push q => exact pushQQ_ignoresIME q
  | rst n | call a => exact call_ignoresIME _
  | ret => exact ret_ignoresIME
  | reti => exact retInterrupt_ignoresIME
  | prefixCB op => exact runCBEntry_ignoresIME op
  | ldhStore n | ldCStore | ldFarStore a => exact fun s b => writeByte_ignoresIME _ s.a s b
  | ldhLoad n | ldCLoad | ldFarLoad a => exact fun s b => loadA_ignoresIME _ s b
  | cb o r => exact cbR8_ignoresIME o r
  | bit i r => exact bitTest_ignoresIME i r
  | res i r => exact bitReset_ignoresIME i r
  | set i r => exact bitSet_ignoresIME i r

theorem fetch_withIME (s : State) (b : Bool) : fetch { s with ime := b } = fetch s := rfl

/-- Two outcomes of a step that differ at most in IME. -/
def AgreeButIME (o p : Host.Outcome State Fault Refusal) : Prop :=
  (∀ t, o = .next t → ∃ t', p = .next t' ∧ { t' with ime := t.ime } = t) ∧ (∀ f, o = .fault f → p = .fault f) ∧
    ∀ r, o = .refused r → p = .refused r

theorem SameButIME.finish {x y : Except Fault State} (h : SameButIME x y) : AgreeButIME (finish x) (finish y) := by
  cases h with
  | ok t b => exact ⟨fun u hu => ⟨_, rfl, by cases hu; rfl⟩, nofun, nofun⟩
  | error f => exact ⟨nofun, fun _ hf => hf, nofun⟩

/-- A step from Running fetches, then runs the handler past the instruction (R67). -/
theorem step_of_running {s : State} (hs : s.status = .running) :
    step s = finish (fetch s >>= fun x => handler x.instr.form (s.setPC x.next)) := by
  cases hx : fetch s with
  | error f => exact step_of_fetch_error hs hx
  | ok x => rw [step_of_fetch hs hx, exec_eq_handler, ok_bind]

theorem State.running_or_faulted (s : State) : s.status = .running ∨ ∃ f, s.status = .faulted f := by
  cases s.status <;> simp

/-- A step reads the status, fetches and runs a handler, none of which reads IME. -/
theorem step_agreeButIME (s : State) (b : Bool) : AgreeButIME (step s) (step { s with ime := b }) := by
  rcases s.running_or_faulted with hs | ⟨f, hs⟩
  · rw [step_of_running hs, step_of_running (s := { s with ime := b }) hs]
    exact (SameButIME.read (fetch_withIME s b) fun x => handler_ignoresIME x.instr.form (s.setPC x.next) b).finish
  · rw [step_of_faulted hs, step_of_faulted (s := { s with ime := b }) hs]
    exact ⟨nofun, nofun, fun _ hr => hr⟩

/-- Settles O53: two states that differ in IME alone have outcomes that differ at most in IME. -/
theorem noStepReadsIME : Obligations.NoStepReadsIME := step_agreeButIME

end Sys2Proof.Machine
end

section
/-! SUPPORT. A register pair and its halves as numbers (spec/10_state.md R16, R17). -/

namespace Sys2Proof.Machine

theorem setBC_eq (s : State) (v : Word) :
    s.setBC v = { s with b := BitVec.ofNat 8 (v.toNat / 256), c := BitVec.ofNat 8 v.toNat } := by
  rw [State.setBC, hiByte_eq_ofNat, loByte_eq_ofNat]

theorem setDE_eq (s : State) (v : Word) :
    s.setDE v = { s with d := BitVec.ofNat 8 (v.toNat / 256), e := BitVec.ofNat 8 v.toNat } := by
  rw [State.setDE, hiByte_eq_ofNat, loByte_eq_ofNat]

theorem setHL_eq (s : State) (v : Word) :
    s.setHL v = { s with h := BitVec.ofNat 8 (v.toNat / 256), l := BitVec.ofNat 8 v.toNat } := by
  rw [State.setHL, hiByte_eq_ofNat, loByte_eq_ofNat]

/-- The mask of R17 as a quotient. -/
theorem and_highNibble_eq_ofNat (v : Byte) : v &&& 0xF0 = BitVec.ofNat 8 (v.toNat / 16 * 16) := by
  revert v; decide

/-- A write of AF, its mask as a number (R17). -/
theorem setAF_eq (s : State) (v : Word) :
    s.setAF v = { s with a := BitVec.ofNat 8 (v.toNat / 256), f := BitVec.ofNat 8 (v.toNat % 256 / 16 * 16) } := by
  rw [State.setAF, and_highNibble_eq_ofNat, hiByte_eq_ofNat, loByte_eq_ofNat, BitVec.toNat_ofNat]

/-- Settles O14: a pair is its halves joined, and a write of a pair splits the value into them. -/
theorem pairsAliasTheirHalves : Obligations.PairsAliasTheirHalves := fun s v x =>
  ⟨⟨toNat_joinBytes s.a s.f, toNat_joinBytes s.b s.c, toNat_joinBytes s.d s.e, toNat_joinBytes s.h s.l⟩,
    ⟨setBC_eq s v, setDE_eq s v, setHL_eq s v⟩, setAF_eq s v,
    joinBytes_hi_lo v, joinBytes_hi_lo v, joinBytes_hi_lo v, toNat_joinBytes x s.c, toNat_joinBytes s.h x⟩

end Sys2Proof.Machine
end

section
/-! SUPPORT. Checked accesses and the stack (spec/20_memory.md R34 to R38, R44 to R46): what each answers, inside memory
and outside it. -/

namespace Sys2Proof.Machine

theorem inMemory_of_fullMemory {s : State} (h : s.cfg.memSize = 0x10000) (a : Word) : inMemory s a := by
  show a.toNat < s.cfg.memSize
  rw [h]; exact a.isLt

/-- Settles O11: the check passes or it does not, and a canonical memory reads back what a write put in it. -/
theorem byteAccessesAreChecked : Obligations.ByteAccessesAreChecked := fun _ a v hwf =>
  ⟨fun ha => ⟨readByte_ok ha, _, writeByte_ok ha, Memory.read_write_same _ _ v hwf,
      fun b hb => Memory.read_write_other _ _ b v hb⟩,
    fun ha => ⟨readByte_error ha, writeByte_error ha⟩,
    fun hsize => inMemory_of_fullMemory hsize a⟩

/-! ## 16-bit accesses -/

theorem readWord_ok {s : State} {a : Word} (h0 : inMemory s a) (h1 : inMemory s (a + 1)) :
    readWord s a = .ok (joinBytes (peek s (a + 1)) (peek s a)) := by
  rw [readWord, readByte_ok h0, readByte_ok h1]; rfl

theorem readWord_error_first {s : State} {a : Word} (h0 : ¬ inMemory s a) :
    readWord s a = .error (.outOfRange a) := by
  rw [readWord, readByte_error h0, error_bind]

theorem readWord_error_second {s : State} {a : Word} (h0 : inMemory s a) (h1 : ¬ inMemory s (a + 1)) :
    readWord s a = .error (.outOfRange (a + 1)) := by
  rw [readWord, readByte_ok h0, readByte_error h1, ok_bind, error_bind]

theorem writeWord_ok {s : State} {a v : Word} (h0 : inMemory s a) (h1 : inMemory s (a + 1)) :
    writeWord s a v = .ok { s with
      mem := Memory.write (Memory.write s.mem a.toNat (loByte v)) (a + 1).toNat (hiByte v) } :=
  writeWord_eq_ok.mpr ⟨h0, h1, rfl⟩

theorem writeWord_error_first {s : State} {a v : Word} (h0 : ¬ inMemory s a) :
    writeWord s a v = .error (.outOfRange a) := by
  rw [writeWord, writeByte_error h0, error_bind]

theorem writeWord_error_second {s : State} {a v : Word} (h0 : inMemory s a) (h1 : ¬ inMemory s (a + 1)) :
    writeWord s a v = .error (.outOfRange (a + 1)) := by
  rw [writeWord, writeByte_ok h0, ok_bind]
  exact writeByte_error h1

/-- Settles O12: both bytes inside memory, the first outside, or the second alone. -/
theorem wordAccessesAreTwoByteAccesses : Obligations.WordAccessesAreTwoByteAccesses := fun s a v =>
  ⟨fun h0 h1 => ⟨by rw [readWord_ok h0 h1, joinBytes_eq_ofNat],
      by rw [writeWord_ok h0 h1, hiByte_eq_ofNat, loByte_eq_ofNat]⟩,
    fun h0 => ⟨readWord_error_first h0, writeWord_error_first h0⟩,
    fun h0 h1 => ⟨readWord_error_second h0 h1, writeWord_error_second h0 h1⟩⟩

/-! ## The stack -/

/-- A push whose two bytes lie in memory stores the halves of the value below SP (R44). -/
theorem push16_ok {s : State} {v : Word} (h1 : inMemory s (s.sp - 1)) (h2 : inMemory s (s.sp - 2)) :
    push16 s v = .ok (pushed s v) := by
  have hsp : s.sp - 1 - 1 = s.sp - 2 := by bv_omega
  refine push16_eq_ok.mpr ⟨h1, hsp ▸ h2, ?_⟩
  rw [hsp, hiByte_eq_ofNat, loByte_eq_ofNat, pushed]

/-- Settles O13: a pop reads the two distinct bytes that the push wrote, and steps SP back over them. -/
theorem pushThenPopRestores : Obligations.PushThenPopRestores := fun s t x hwf h => by
  obtain ⟨h1, h2, rfl⟩ := push16_eq_ok.mp h
  have hhigh : s.sp - 1 - 1 + 1 = s.sp - 1 := by bv_omega
  have hsp : s.sp - 1 + 1 = s.sp := by bv_omega
  have hne : (s.sp - 1).toNat ≠ (s.sp - 1 - 1).toNat := by bv_omega
  refine pop16_eq_ok.mpr ⟨h2, by simpa only [hhigh] using h1, ?_, by simp only [hhigh, hsp]⟩
  simp only [hhigh]
  rw [Memory.read_write_other _ _ _ _ hne, Memory.read_write_same _ _ _ hwf,
    Memory.read_write_same _ _ _ (Memory.wf_write _ _ _ hwf), joinBytes_hi_lo]

end Sys2Proof.Machine
end

section
/-! SUPPORT. The step of bytes that decode (spec/30_encoding.md R54, R67): the fetch reads the bytes the decoder reads. -/

namespace Sys2Proof.Machine

/-- When the bytes at PC decode and the instruction's own lie in memory, the fetch answers it with PC_next (R67). -/
theorem fetch_of_decode {s : State} {i : Instr} {rest : List Byte}
    (hd : decode [peek s s.pc, peek s (s.pc + 1), peek s (s.pc + 2)] = .ok (i, rest))
    (hin : ∀ k < instrLength (peek s s.pc), inMemory s (s.pc + BitVec.ofNat 16 k)) :
    fetch s = .ok ⟨i, s.pc + BitVec.ofNat 16 (instrLength (peek s s.pc))⟩ := by
  rcases instrLength_cases (peek s s.pc) with hl | hl | hl <;> rw [hl] at hin ⊢
  · rw [decode_one hl] at hd; cases hd
    rw [fetch_one (by simpa using hin 0 (by decide)) hl]; rfl
  · rw [decode_two hl] at hd; cases hd
    rw [fetch_two (by simpa using hin 0 (by decide)) hl, readByte_ok (a := s.pc + 1) (hin 1 (by decide))]; rfl
  · rw [decode_three hl] at hd; cases hd
    rw [fetch_three (by simpa using hin 0 (by decide)) hl, readByte_ok (a := s.pc + 1) (hin 1 (by decide)),
      ok_bind, readByte_ok (a := s.pc + 2) (hin 2 (by decide))]; rfl

/-- Such a step is the instruction's meaning, with PC past its bytes (R67). -/
theorem step_of_decode {s : State} {i : Instr} {rest : List Byte} (hs : s.status = .running)
    (hd : decode [peek s s.pc, peek s (s.pc + 1), peek s (s.pc + 2)] = .ok (i, rest))
    (hin : ∀ k < instrLength (peek s s.pc), inMemory s (s.pc + BitVec.ofNat 16 k)) :
    step s = exec i { s with pc := s.pc + BitVec.ofNat 16 (instrLength (peek s s.pc)) } :=
  step_of_fetch hs (fetch_of_decode hd hin)

/-- LD (HL),(HL) is the form of no row: its place is HALT's (R159). -/
theorem form_ne_ld_atHL_atHL (i : Instr) : i.form ≠ .ld .atHL .atHL := fun h => by
  have hi : i = .halt := by rw [← instrOf_form i, h]; rfl
  subst hi; cases h

end Sys2Proof.Machine
end

section
/-! SUPPORT. Stores (spec/20_memory.md R52, spec/70_reset_and_hazards.md R191): memory after a list of writes, the stores
each shared operation makes when their addresses lie in memory, then the case split over the forms. -/

namespace Sys2Proof.Machine

/-! ## Writes in order -/

/-- Memory after a list of writes, in order. -/
def Memory.writeAll (m : Memory) (ws : List (Word × Byte)) : Memory :=
  ws.foldl (fun m w => Memory.write m w.1.toNat w.2) m

/-- After writes in order an address holds the last byte written there, else its old byte (R49). -/
theorem Memory.read_writeAll (m : Memory) (ws : List (Word × Byte)) (a : Nat) (hm : Memory.wf m = true) :
    Memory.read (Memory.writeAll m ws) a = (lastWritten a ws).getD (Memory.read m a) := by
  induction ws generalizing m with
  | nil => rfl
  | cons w ws ih =>
    obtain ⟨b, v⟩ := w
    have hrest := ih _ (Memory.wf_write m b.toNat v hm)
    rw [Memory.writeAll, List.foldl_cons, ← Memory.writeAll, hrest, lastWritten]
    cases lastWritten a ws with
    | some u => rfl
    | none =>
      by_cases hb : b.toNat = a
      · subst hb; simp [Memory.read_write_same m _ v hm]
      · simp [hb, Memory.read_write_other m _ _ v (Ne.symm hb)]

/-- The operation completes, and leaves memory `m` with the writes `ws` made in order. -/
def CompletesWith (x : Except Fault State) (m : Memory) (ws : List (Word × Byte)) : Prop :=
  ∃ t, x = .ok t ∧ t.mem = Memory.writeAll m ws

/-- What follows the stores and leaves memory alone adds none. -/
theorem CompletesWith.bind_ok {x : Except Fault State} {m : Memory} {ws : List (Word × Byte)} {k : State → State}
    (h : CompletesWith x m ws) (hk : ∀ u, (k u).mem = u.mem) : CompletesWith (x >>= fun u => .ok (k u)) m ws := by
  obtain ⟨u, rfl, hu⟩ := h
  exact ⟨k u, rfl, (hk u).trans hu⟩

/-! ## One rule per store -/

theorem writeByte_completes {s : State} {a : Word} (h : inMemory s a) (v : Byte) :
    CompletesWith (writeByte s a v) s.mem [(a, v)] := ⟨_, writeByte_ok h, rfl⟩

theorem writeWord_completes {s : State} {a : Word} (hin : ∀ b ∈ [a, a + 1], inMemory s b) (v : Word) :
    CompletesWith (writeWord s a v) s.mem
      [(a, BitVec.ofNat 8 v.toNat), (a + 1, BitVec.ofNat 8 (v.toNat / 256))] :=
  ⟨_, writeWord_ok (hin _ (by simp)) (hin _ (by simp)), by rw [hiByte_eq_ofNat, loByte_eq_ofNat]; rfl⟩

theorem push16_completes {s : State} (hin : ∀ b ∈ [s.sp - 1, s.sp - 2], inMemory s b) (v : Word) :
    CompletesWith (push16 s v) s.mem
      [(s.sp - 1, BitVec.ofNat 8 (v.toNat / 256)), (s.sp - 2, BitVec.ofNat 8 v.toNat)] :=
  ⟨_, push16_ok (hin _ (by simp)) (hin _ (by simp)), rfl⟩

theorem call_completes {s : State} (hin : ∀ b ∈ [s.sp - 1, s.sp - 2], inMemory s b) (a : Word) :
    CompletesWith (call a s) s.mem
      [(s.sp - 1, BitVec.ofNat 8 (s.pc.toNat / 256)), (s.sp - 2, BitVec.ofNat 8 s.pc.toNat)] :=
  (push16_completes hin s.pc).bind_ok fun _ => rfl

theorem storeInd_completes {p : Ind} {s : State} (h : inMemory s (indAddr s p)) :
    CompletesWith (storeInd p s) s.mem [(indAddr s p, s.a)] :=
  (writeByte_completes h s.a).bind_ok fun _ => by cases p <;> rfl

/-! ## Operands that are the byte at HL -/

section
variable {s : State} {r : R8} (hr : storeOfR8 s r ≠ []) (hin : ∀ a ∈ storeOfR8 s r, inMemory s a)
include hr

/-- (HL) alone of the r operands is a byte of memory (R58). -/
theorem eq_atHL_of_storeOfR8_ne_nil : r = .atHL := by
  cases r
  case atHL => rfl
  all_goals exact absurd rfl hr

include hin

theorem readR8_of_storeOfR8 : readR8 s r = .ok (peek s s.hl) := by
  obtain rfl := eq_atHL_of_storeOfR8_ne_nil hr
  exact readByte_ok (hin _ List.mem_cons_self)

theorem writeR8_completes (v : Byte) : CompletesWith (writeR8 s r v) s.mem ((storeOfR8 s r).zip [v]) := by
  obtain rfl := eq_atHL_of_storeOfR8_ne_nil hr
  exact writeByte_completes (hin _ List.mem_cons_self) v

/-- An operand read and its result written back: the shape of RES and SET. -/
theorem writeBackR8_completes (res : Byte → Byte) :
    CompletesWith (do let v ← readR8 s r; writeR8 s r (res v)) s.mem ((storeOfR8 s r).zip [res (peek s s.hl)]) := by
  rw [readR8_of_storeOfR8 hr hin, ok_bind]
  exact writeR8_completes hr hin _

/-- The same, then flags: the shape of INC, DEC and the CB rotates. -/
theorem updateR8_completes (res : Byte → Byte) (fs : Byte → List (Flag × Bool)) :
    CompletesWith (do let v ← readR8 s r; let u ← writeR8 s r (res v); .ok (u.writeFlags (fs v))) s.mem
      ((storeOfR8 s r).zip [res (peek s s.hl)]) := by
  rw [readR8_of_storeOfR8 hr hin, ok_bind]
  exact (writeR8_completes hr hin _).bind_ok fun _ => rfl

end

/-! ## Every form -/

/-- Every form that stores, with its addresses in memory, completes and makes its listed stores (R39). -/
theorem handler_completes {x : Form} {s : State} (hld : x ≠ .ld .atHL .atHL) (hne : storedAddrs s x ≠ [])
    (hin : ∀ a ∈ storedAddrs s x, inMemory s a) :
    CompletesWith (handler x s) s.mem ((storedAddrs s x).zip (storedValues s x)) := by
  cases x with
  | inc r | dec r | cb o r => exact updateR8_completes hne hin _ _
  | res i r | set i r => exact writeBackR8_completes hne hin _
  | ldImm r n => exact writeR8_completes hne hin n
  | ld dst src =>
    obtain rfl := eq_atHL_of_storeOfR8_ne_nil hne
    cases src
    case atHL => exact absurd rfl hld
    all_goals exact writeByte_completes (hin _ List.mem_cons_self) _
  | prefixCB op =>
    simp only [handler, runCBEntry, storedAddrs, storedValues] at hne hin ⊢
    split <;> rename_i hx <;> simp only [hx] at hne hin ⊢
    · exact updateR8_completes hne hin _ _
    · exact absurd rfl hne
    · exact writeBackR8_completes hne hin _
    · exact writeBackR8_completes hne hin _
  | ldIndA p => exact storeInd_completes (hin _ List.mem_cons_self)
  | ldhStore n | ldCStore | ldFarStore a => exact writeByte_completes (hin _ List.mem_cons_self) s.a
  | ldFarSP a => exact writeWord_completes hin s.sp
  | push q => exact push16_completes hin _
  | call a | rst n => exact call_completes hin _
  | callCond k a =>
    cases hk : condHolds s k <;> simp only [handler, whenCond, storedAddrs, hk] at hne hin ⊢
    · exact absurd rfl hne
    · exact call_completes hin a
  | _ => exact absurd rfl hne

/-- Every row that stores, with its addresses in memory, completes and leaves each address its byte (R39, R49). -/
theorem exec_stores {i : Instr} {s : State} (hwf : Memory.wf s.mem = true) (hne : storedAddrs s i.form ≠ [])
    (hin : ∀ a ∈ storedAddrs s i.form, inMemory s a) :
    ∃ t, exec i s = .next t ∧ ∀ a, peek t a = byteAfter s i.form a := by
  obtain ⟨t, ht, hmem⟩ := handler_completes (form_ne_ld_atHL_atHL i) hne hin
  exact ⟨t, by rw [exec_eq_handler, ht, finish_ok], fun a => by
    rw [peek, hmem, Memory.read_writeAll _ _ _ hwf, byteAfter]⟩

/-- Settles O55: the running step decodes the bytes before it and makes its stores; a later step decodes the memory they
left. -/
theorem storesAreSeenByLaterFetches : Obligations.StoresAreSeenByLaterFetches := by
  intro s i rest hwf hs hd hbytes r after hne hin
  obtain ⟨t, ht, hafter⟩ := exec_stores (s := r) hwf hne hin
  have hcfg : t.cfg = s.cfg := (exec_changesOnly ht).cfg
  refine ⟨t, (step_of_decode hs hd hbytes).trans ht, ht, hcfg, hafter, fun u j rest' hu humem hucfg hd' hbytes' => ?_⟩
  have hpeek : ∀ a, after a = peek u a := fun a => by rw [peek, humem]; exact (hafter a).symm
  have hinside : ∀ a, inMemory s a → inMemory u a := fun a ha => by rw [inMemory, hucfg, hcfg]; exact ha
  simp only [hpeek] at hd' hbytes' ⊢
  exact step_of_decode hu hd' fun k hk => hinside _ (hbytes' k hk)

end Sys2Proof.Machine
end

section
/-! SUPPORT. The decoder and the encoder against each other (spec/30_encoding.md R54 to R60): every row read back from
its bytes, and every opcode's bytes written again from the row they decode to. -/

namespace Sys2Proof.Machine

/-! ## From a row to its bytes and back -/

/-- An operand word laid out low byte first is the word read back (R57). -/
theorem decode_encode_word {i : Instr} {row : Word → Instr} {n : Word} {rest : List Byte}
    (h : decode (encode i ++ rest) = .ok (row (joinBytes (hiByte n) (loByte n)), rest)) :
    decode (encode i ++ rest) = .ok (row n, rest) := by
  rw [h, joinBytes_hi_lo]

/-- Row by row: the rows with a 16-bit operand join its two bytes again, every other row is read off its bytes. -/
theorem decode_encode (i : Instr) (rest : List Byte) (h : i.wf = true) :
    decode (encode i ++ rest) = .ok (i, rest) := by
  cases i
  case prefixCB => cases h
  case ldBC_d16 n | ldDE_d16 n | ldHL_d16 n | ldSP_d16 n | ldAtA16_SP n | ldAtA16_A n | ldA_atA16 n | jp_a16 n
      | jpNZ_a16 n | jpZ_a16 n | jpNC_a16 n | jpC_a16 n | call_a16 n | callNZ_a16 n | callZ_a16 n | callNC_a16 n
      | callC_a16 n => exact decode_encode_word rfl
  all_goals rfl

/-- Settles O1, row by row. -/
theorem encodeThenDecodeIsIdentity : Obligations.EncodeThenDecodeIsIdentity := decode_encode

/-- Settles O3: each list of bytes is the encoding of its instruction. -/
theorem writtenOutWordsDecode : Obligations.WrittenOutWordsDecode :=
  ⟨decode_encode .nop [] rfl, decode_encode (.ldA_d8 0x42) [] rfl, decode_encode (.ldHL_d16 0x1234) [] rfl,
    decode_encode .incAtHL [] rfl, decode_encode .sbcA_H [] rfl, decode_encode .swap_A [] rfl,
    decode_encode .set1_E [] rfl, decode_encode (.ldhAtA8_A 0x40) [] rfl, decode_encode (.jr_e8 0xFE) [] rfl,
    decode_encode (.call_a16 0x0300) [] rfl, decode_encode .reservedDDH [] rfl⟩

/-! ## From bytes to a row and back, by the opcode's length -/

/-- The opcodes with one operand byte (R57). -/
def byteOpcodes : List Byte :=
  [0x06, 0x0E, 0x16, 0x1E, 0x26, 0x2E, 0x36, 0x3E, 0x10, 0x18, 0x20, 0x28, 0x30, 0x38, 0xC6, 0xCE, 0xD6, 0xDE, 0xE6,
    0xEE, 0xF6, 0xFE, 0xE0, 0xF0, 0xE8, 0xF8]

/-- The opcodes with two operand bytes (R57). -/
def wordOpcodes : List Byte :=
  [0x01, 0x11, 0x21, 0x31, 0x08, 0xC2, 0xCA, 0xD2, 0xDA, 0xC3, 0xC4, 0xCC, 0xD4, 0xDC, 0xCD, 0xEA, 0xFA]

theorem instrLength_eq_two_iff (op : Byte) : instrLength op = 2 ↔ op = 0xCB ∨ op ∈ byteOpcodes := by
  revert op; decide

theorem instrLength_eq_three_iff (op : Byte) : instrLength op = 3 ↔ op ∈ wordOpcodes := by
  revert op; decide

theorem encode_decodeBytes_one {op : Byte} (h : instrLength op = 1) :
    (decodeBytes op 0 0).wf = true ∧ encode (decodeBytes op 0 0) = [op] := by
  revert op; decide

theorem encode_decodeBytes_cb (op : Byte) :
    (decodeBytes 0xCB op 0).wf = true ∧ encode (decodeBytes 0xCB op 0) = [0xCB, op] := by
  revert op; decide

theorem encode_decodeBytes_two {op : Byte} (h : instrLength op = 2) (b1 : Byte) :
    (decodeBytes op b1 0).wf = true ∧ encode (decodeBytes op b1 0) = [op, b1] := by
  rcases (instrLength_eq_two_iff op).mp h with rfl | h
  · exact encode_decodeBytes_cb b1
  · fin_cases h <;> exact ⟨rfl, rfl⟩

/-- The halves of the word joined from two bytes are those bytes. -/
theorem encode_eq_of_joinBytes {i : Instr} {op b1 b2 : Byte}
    (h : encode i = [op, loByte (joinBytes b2 b1), hiByte (joinBytes b2 b1)]) : encode i = [op, b1, b2] := by
  rw [h, loByte_joinBytes, hiByte_joinBytes]

theorem encode_decodeBytes_three {op : Byte} (h : instrLength op = 3) (b1 b2 : Byte) :
    (decodeBytes op b1 b2).wf = true ∧ encode (decodeBytes op b1 b2) = [op, b1, b2] := by
  have hop := (instrLength_eq_three_iff op).mp h
  fin_cases hop <;> exact ⟨rfl, encode_eq_of_joinBytes rfl⟩

/-- What the decoder answers is well formed and is written as the bytes it read (R64). -/
theorem encode_of_decode {bytes rest : List Byte} {i : Instr} (h : decode bytes = .ok (i, rest)) :
    i.wf = true ∧ encode i ++ rest = bytes := by
  obtain ⟨op, b1, b2, rfl, ⟨hl, rfl, rfl, rfl⟩ | ⟨hl, rfl, rfl⟩ | ⟨hl, rfl⟩⟩ := decode_eq_ok h
  · exact (encode_decodeBytes_one hl).imp_right fun he => by rw [he]; rfl
  · exact (encode_decodeBytes_two hl b1).imp_right fun he => by rw [he]; rfl
  · exact (encode_decodeBytes_three hl b1 b2).imp_right fun he => by rw [he]; rfl

/-- Settles O2, by the opcode's length. -/
theorem decodeThenEncodeGivesTheBytesBack : Obligations.DecodeThenEncodeGivesTheBytesBack :=
  fun _ _ _ h => encode_of_decode h

end Sys2Proof.Machine
end

section
/-! SUPPORT. The length of an instruction, the two tables and the r operand (spec/30_encoding.md R54, R56 to R58, R61,
R62), and the step of bytes that decode (R67). -/

namespace Sys2Proof.Machine

/-! ## The length (R54) -/

/-- A decoding takes as many bytes as its opcode's length says. -/
theorem length_of_decode {op : Byte} {rest tail : List Byte} {i : Instr} (h : decode (op :: rest) = .ok (i, tail)) :
    (op :: rest).length = tail.length + instrLength op := by
  obtain ⟨_, b1, b2, -, ⟨hl, -, -, hb⟩ | ⟨hl, -, hb⟩ | ⟨hl, hb⟩⟩ := decode_eq_ok h
  all_goals cases hb; rw [hl]; rfl

theorem instrLength_bounds (op : Byte) : 1 ≤ instrLength op ∧ instrLength op ≤ 3 := by
  rcases instrLength_cases op with h | h | h <;> rw [h] <;> decide

/-- An opcode with an operand is not 0xCB, and has its operand's bytes after it (R57). -/
theorem instrLength_of_kind {op : Byte} {k : OperandKind} (hk : operandKind op = k) (hne : k ≠ .none) :
    instrLength op = 1 + k.bytes := by
  subst hk
  exact if_neg (by rintro rfl; exact hne rfl)

/-- After 0xCB the second byte is the CB opcode (R64). -/
theorem decode_cb {rest tail : List Byte} {i : Instr} (h : decode (0xCB :: rest) = .ok (i, tail)) :
    ∃ b, rest = b :: tail ∧ i = instrOf (cbForm b) := by
  cases rest with
  | nil => cases h
  | cons b rest => cases h; exact ⟨b, rfl, rfl⟩

/-- Settles O4: the bytes a decoding takes, then the length by the operand kind. -/
theorem lengthFollowsFromFirstByte : Obligations.LengthFollowsFromFirstByte := by
  intro op rest tail i h
  obtain ⟨hmin, hmax⟩ := instrLength_bounds op
  refine ⟨length_of_decode h, hmin, hmax, fun hop => ?_, fun hop hk => ?_, fun hk => ?_, fun hk => ?_⟩
  · subst hop; exact ⟨rfl, decode_cb h⟩
  · rw [instrLength, if_neg hop, hk]; rfl
  · simp only [List.mem_cons, List.not_mem_nil, or_false] at hk
    rcases hk with hk | hk | hk <;> exact instrLength_of_kind hk nofun
  · simp only [List.mem_cons, List.not_mem_nil, or_false] at hk
    rcases hk with hk | hk <;> exact instrLength_of_kind hk nofun

/-! ## The tables (R61, R62) -/

theorem executable_cbForm (op : Byte) : executable (cbForm op) = true := by
  unfold cbForm; split <;> rfl

/-- The executable primary entries, counted by the quarters of the table (R55): 63, 63, 64 and 50. -/
theorem length_executable_primaryForm :
    ((List.range 256).filter fun n => executable (primaryForm (BitVec.ofNat 8 n) 0 0)).length = 240 := by
  rw [show 256 = 64 + 64 + 64 + 64 from rfl, List.range_add, List.range_add, List.range_add]
  simp only [List.filter_append, List.length_append]
  rfl

/-- Settles O5: the primary table counted by quarters, every CB entry, then the opcodes that are not executable. -/
theorem tablesHaveTheStatedEntries : Obligations.TablesHaveTheStatedEntries :=
  ⟨length_executable_primaryForm, by simp [executable_cbForm], by decide⟩

/-- A row's form is executable but for the reserved and the unimplemented opcodes (R61). -/
theorem executable_form {i : Instr} {op : Byte} {rest tail : List Byte} (hwf : i.wf = true)
    (h : encode i ++ rest = op :: tail) :
    executable i.form = decide (op ∉ reservedOpcodes ∧ op ∉ unimplementedOpcodes) := by
  cases i
  case prefixCB => cases hwf
  all_goals cases h; rfl

/-! ## The r operand (R56, R58) -/

/-- Settles O10: each register, the byte at HL inside memory and outside it, then the codes. -/
theorem r8OperandsNameTheirLocation : Obligations.R8OperandsNameTheirLocation := fun s v =>
  ⟨⟨rfl, rfl⟩, ⟨rfl, rfl⟩, ⟨rfl, rfl⟩, ⟨rfl, rfl⟩, ⟨rfl, rfl⟩, ⟨rfl, rfl⟩, ⟨rfl, rfl⟩,
    fun h => ⟨readByte_ok h, writeByte_ok h⟩, fun h => ⟨readByte_error h, writeByte_error h⟩,
    fun r => by cases r <;> rfl⟩

/-! ## The step (R67) -/

/-- Settles O7: the fetch reads the bytes the decoder reads. -/
theorem stepRunsTheDecodedInstruction : Obligations.StepRunsTheDecodedInstruction :=
  fun _ _ _ hs hd hin => step_of_decode hs hd hin

end Sys2Proof.Machine
end

section
/-! SUPPORT. Which meanings complete (spec/60_exceptions.md R165, R166): one rule per shared operation whose accesses
lie in memory, then the CB entries (spec/46_misc.md R164) and the machine with full memory. -/

namespace Sys2Proof.Machine

/-- The operation raises no fault. -/
def Completes {α : Type} (x : Except Fault α) : Prop := ∃ v, x = .ok v

theorem Completes.bind {α β : Type} {x : Except Fault α} {k : α → Except Fault β} (hx : Completes x)
    (hk : ∀ v, Completes (k v)) : Completes (x >>= k) := by
  obtain ⟨v, rfl⟩ := hx
  exact hk v

/-! ## Operations on an r operand -/

section
variable {s : State} {r : R8} (hr : r = .atHL → inMemory s s.hl)
include hr

theorem readR8_completes : Completes (readR8 s r) := by
  cases r
  case atHL => exact ⟨_, readByte_ok (hr rfl)⟩
  all_goals exact ⟨_, rfl⟩

theorem writeR8_completes_of_inMemory (v : Byte) : Completes (writeR8 s r v) := by
  cases r
  case atHL => exact ⟨_, writeByte_ok (hr rfl)⟩
  all_goals exact ⟨_, rfl⟩

/-- An operand read and its result written back: the shape of RES and SET. -/
theorem writeBackR8_completes_of_inMemory (res : Byte → Byte) :
    Completes (do let v ← readR8 s r; writeR8 s r (res v)) :=
  (readR8_completes hr).bind fun _ => writeR8_completes_of_inMemory hr _

/-- The same, then flags: the shape of INC, DEC and the CB rotates. -/
theorem updateR8_completes_of_inMemory (res : Byte → Byte) (fs : Byte → List (Flag × Bool)) :
    Completes (do let v ← readR8 s r; let u ← writeR8 s r (res v); .ok (u.writeFlags (fs v))) :=
  (readR8_completes hr).bind fun _ => (writeR8_completes_of_inMemory hr _).bind fun _ => ⟨_, rfl⟩

/-- An operand read and a state computed from it: the shape of BIT and the ALU. -/
theorem useR8_completes_of_inMemory (k : Byte → State) : Completes (do let v ← readR8 s r; .ok (k v)) :=
  (readR8_completes hr).bind fun _ => ⟨_, rfl⟩

end

/-! ## Row 0xCB (R164) -/

/-- The handler of a CB entry's form is the entry run from its fields (R60). -/
theorem handler_cbForm (op : Byte) : handler (cbForm op) = runCBEntry op := by
  funext s
  unfold cbForm runCBEntry
  generalize fieldX op = x
  fin_cases x <;> rfl

/-- Row 0xCB does what the CB row that its bytes decode to does. -/
theorem exec_prefixCB (op : Byte) (s : State) : exec (.prefixCB op) s = exec (decodeBytes 0xCB op 0) s := by
  show _ = exec (instrOf (cbForm op)) s
  rw [exec_instrOf, handler_cbForm]; rfl

theorem eq_six_of_r8OfCode {n : Fin 8} (h : r8OfCode n = .atHL) : n = 6 := by
  revert n; decide

theorem runCBEntry_completes {op : Byte} {s : State} (h : fieldZ op = 6 → inMemory s s.hl) :
    Completes (runCBEntry op s) := by
  have hr : r8OfCode (fieldZ op) = .atHL → inMemory s s.hl := fun hz => h (eq_six_of_r8OfCode hz)
  unfold runCBEntry
  split
  · exact updateR8_completes_of_inMemory hr _ _
  · exact useR8_completes_of_inMemory hr _
  · exact writeBackR8_completes_of_inMemory hr _
  · exact writeBackR8_completes_of_inMemory hr _

/-- Settles O6: row 0xCB runs the handler of the entry it selects, and that completes when its operand is readable. -/
theorem prefixRunsTheSelectedEntry : Obligations.PrefixRunsTheSelectedEntry := fun op s =>
  ⟨exec_prefixCB op s, fun h => by
    obtain ⟨t, ht⟩ := runCBEntry_completes fun hz => h.resolve_left (not_not_intro hz)
    have hexec : exec (.prefixCB op) s = .next t := congrArg finish ht
    exact ⟨t, hexec, exec_prefixCB op s ▸ hexec⟩⟩

/-! ## Full memory (R61, R166) -/

theorem whenCond_completes {k : Cond} {x : State → Except Fault State} {s : State} (hx : Completes (x s)) :
    Completes (whenCond k x s) := by
  unfold whenCond
  split
  · exact hx
  · exact ⟨s, rfl⟩

theorem handler_completes_of_inMemory {x : Form} {s : State} (hin : ∀ a, inMemory s a) (hx : executable x = true)
    (hld : x ≠ .ld .atHL .atHL) : Completes (handler x s) := by
  have hcall : ∀ a, Completes (call a s) := fun a => ⟨_, call_eq_ok.mpr ⟨hin _, hin _, rfl⟩⟩
  have hret : Completes (ret s) := ⟨_, ret_eq_ok.mpr ⟨hin _, hin _, rfl⟩⟩
  cases x with
  | stop n | halt | di | ei | reserved y | prefixCB op => cases hx
  | nop | ldRR p n | incRR p | decRR p | addHL p | accRot o | daa | cpl | scf | ccf | jr e | jp a | jpHL | aluImm o n
  | addSP e | ldHLSP e | ldSPHL => exact ⟨_, rfl⟩
  | inc r | dec r | cb o r => exact updateR8_completes_of_inMemory (fun _ => hin _) _ _
  | res i r | set i r => exact writeBackR8_completes_of_inMemory (fun _ => hin _) _
  | bit i r | alu o r => exact useR8_completes_of_inMemory (fun _ => hin _) _
  | ldImm r n => exact writeR8_completes_of_inMemory (fun _ => hin _) n
  | ld dst src =>
    rw [handler_ld fun h => hld (by rw [h.1, h.2])]
    exact (readR8_completes fun _ => hin _).bind fun v => writeR8_completes_of_inMemory (fun _ => hin _) v
  | ldIndA p => exact ⟨_, storeInd_eq_ok.mpr ⟨hin _, rfl⟩⟩
  | ldAInd p => exact ⟨_, loadInd_eq_ok.mpr ⟨hin _, rfl⟩⟩
  | ldhStore n | ldCStore | ldFarStore a => exact ⟨_, writeByte_ok (hin _)⟩
  | ldhLoad n | ldCLoad | ldFarLoad a => exact ⟨_, loadA_eq_ok.mpr ⟨hin _, rfl⟩⟩
  | ldFarSP a => exact ⟨_, writeWord_ok (hin _) (hin _)⟩
  | push q => exact ⟨_, push16_ok (hin _) (hin _)⟩
  | pop q => exact ⟨_, popQQ_eq_ok.mpr ⟨hin _, hin _, rfl⟩⟩
  | jrCond k e | jpCond k a => exact whenCond_completes ⟨_, rfl⟩
  | callCond k a => exact whenCond_completes (hcall a)
  | retCond k => exact whenCond_completes hret
  | call a => exact hcall a
  | rst n => exact hcall (rstVector n)
  | ret => exact hret
  | reti => exact hret.bind fun _ => ⟨_, rfl⟩

theorem exec_completes_of_inMemory {i : Instr} {s : State} (hin : ∀ a, inMemory s a) (hx : executable i.form = true) :
    ∃ t, exec i s = .next t := by
  obtain ⟨t, ht⟩ := handler_completes_of_inMemory hin hx (form_ne_ld_atHL_atHL i)
  exact ⟨t, by rw [exec_eq_handler, ht, finish_ok]⟩

/-- Three bytes always decode (R54, R61). -/
theorem exists_decode (op b1 b2 : Byte) : ∃ i rest, decode [op, b1, b2] = .ok (i, rest) := by
  rcases instrLength_cases op with h | h | h
  · exact ⟨_, _, decode_one h⟩
  · exact ⟨_, _, decode_two h⟩
  · exact ⟨_, _, decode_three h⟩

theorem decodeBytes_of_decode {op : Byte} {tl rest : List Byte} {i : Instr} (h : decode (op :: tl) = .ok (i, rest)) :
    ∃ b1 b2, i = decodeBytes op b1 b2 := by
  obtain ⟨_, b1, b2, rfl, ⟨-, -, -, hb⟩ | ⟨-, -, hb⟩ | ⟨-, hb⟩⟩ := decode_eq_ok h
  all_goals cases hb; exact ⟨_, _, rfl⟩

theorem exec_reserved {op : Byte} (h : op ∈ reservedOpcodes) (b1 b2 : Byte) (s : State) :
    exec (decodeBytes op b1 b2) s = .fault (.reserved op) := by
  fin_cases h <;> rfl

theorem exec_unimplemented {op : Byte} (h : op ∈ unimplementedOpcodes) (b1 b2 : Byte) (s : State) :
    exec (decodeBytes op b1 b2) s = .fault (.unimplemented op) := by
  fin_cases h <;> rfl

/-- Settles O54: the step runs the row that the bytes at PC decode to, and the row's opcode says how it ends. -/
theorem fullMemoryStepsComplete : Obligations.FullMemoryStepsComplete := by
  intro s hs hfull
  have hin := inMemory_of_fullMemory hfull
  obtain ⟨i, rest, hd⟩ := exists_decode (peek s s.pc) (peek s (s.pc + 1)) (peek s (s.pc + 2))
  rw [step_of_decode hs hd fun _ _ => hin _]
  refine ⟨fun hr hu => ?_, fun hr => ?_, fun hu => ?_⟩
  · obtain ⟨hwf, hbytes⟩ := encode_of_decode hd
    have hx : executable i.form = true := by rw [executable_form hwf hbytes]; exact decide_eq_true ⟨hr, hu⟩
    exact exec_completes_of_inMemory (fun a => hin a) hx
  · obtain ⟨b1, b2, rfl⟩ := decodeBytes_of_decode hd
    exact exec_reserved hr b1 b2 _
  · obtain ⟨b1, b2, rfl⟩ := decodeBytes_of_decode hd
    exact exec_unimplemented hu b1 b2 _

end Sys2Proof.Machine
end

section
/-! SUPPORT. Increment and decrement (spec/41_inc_dec.md R69 to R75): the operand update as numbers, the byte that a
canonical state holds after it, then the four statements. -/

namespace Sys2Proof.Machine

/-! ## One more and one less, as numbers -/

theorem ofNat_toNat_add_one {w : Nat} (v : BitVec w) : BitVec.ofNat w (v.toNat + 1) = v + 1 := by
  rw [BitVec.ofNat_add, BitVec.ofNat_toNat, BitVec.setWidth_eq]; rfl

theorem ofNat_toNat_add_255 (v : Byte) : BitVec.ofNat 8 (v.toNat + 255) = v - 1 := by bv_omega

theorem ofNat_toNat_add_65535 (v : Word) : BitVec.ofNat 16 (v.toNat + 65535) = v - 1 := by bv_omega

/-- The flags of INC: zero from 0xFF alone, a half carry from a low nibble of 15 (R69). -/
theorem incFlags_eq (v : Byte) (c : Bool) :
    flagsByte (v + 1 == 0) false (halfCarryAdd v 1) c =
      flagsByte (decide (v.toNat = 0xFF)) false (decide (v.toNat % 16 = 0x0F)) c := by
  have hz : (v + 1 == 0) = decide (v.toNat = 0xFF) := by
    rw [Bool.beq_eq_decide_eq, decide_eq_decide]; bv_omega
  have hh : halfCarryAdd v 1 = decide (v.toNat % 16 = 0x0F) := by
    rw [halfCarryAdd_eq, decide_eq_decide, show (1 : Byte).toNat = 1 from rfl]; omega
  rw [hz, hh]

/-- The flags of DEC: zero from 1 alone, a half borrow from a low nibble of 0 (R71). -/
theorem decFlags_eq (v : Byte) (c : Bool) :
    flagsByte (v - 1 == 0) true (halfCarrySub v 1) c =
      flagsByte (decide (v.toNat = 1)) true (decide (v.toNat % 16 = 0)) c := by
  have hz : (v - 1 == 0) = decide (v.toNat = 1) := by
    rw [Bool.beq_eq_decide_eq, decide_eq_decide]; bv_omega
  have hh : halfCarrySub v 1 = decide (v.toNat % 16 = 0) := by
    rw [halfCarrySub_eq, decide_eq_decide, show (1 : Byte).toNat = 1 from rfl]; omega
  rw [hz, hh]

/-! ## The rows INC and DEC -/

section
variable {s u : State} {r : R8} {v : Byte} (hv : readR8 s r = .ok v)
include hv

theorem exec_incInstr (hu : writeR8 s r (v + 1) = .ok u) :
    exec (incInstr r) s = .next { u with f := flagsByte (v + 1 == 0) false (halfCarryAdd v 1) (s.flag .c) } :=
  (exec_instrOf (.inc r) s).trans (congrArg finish (incR8_eq_ok.mpr ⟨v, u, hv, hu, rfl⟩))

theorem exec_decInstr (hu : writeR8 s r (v - 1) = .ok u) :
    exec (decInstr r) s = .next { u with f := flagsByte (v - 1 == 0) true (halfCarrySub v 1) (s.flag .c) } :=
  (exec_instrOf (.dec r) s).trans (congrArg finish (decR8_eq_ok.mpr ⟨v, u, hv, hu, rfl⟩))

end

/-- What begins with a read of (HL) faults when HL lies outside memory (R34). -/
theorem readR8_atHL_bind_outside {α : Type} {s : State} (h : ¬ inMemory s s.hl) (k : Byte → Except Fault α) :
    (readR8 s .atHL >>= k) = .error (.outOfRange s.hl) := by
  rw [readR8, readByte_error h, error_bind]

/-- Settles O16: the operand's update, its flags as numbers, and the fault of the first read. -/
theorem incrementWritesZNHAndKeepsC : Obligations.IncrementWritesZNHAndKeepsC := by
  refine fun r => ⟨by cases r <;> rfl, fun s => ⟨fun v u hv hu => ?_, fun hr hout => ?_⟩⟩
  · rw [ofNat_toNat_add_one] at hu
    rw [exec_incInstr hv hu, incFlags_eq]
  · subst hr
    exact (exec_instrOf (.inc .atHL) s).trans (congrArg finish (readR8_atHL_bind_outside hout _))

/-- Settles O17: as O16, with a borrow in the place of the carry. -/
theorem decrementWritesZNHAndKeepsC : Obligations.DecrementWritesZNHAndKeepsC := by
  refine fun r => ⟨by cases r <;> rfl, fun s => ⟨fun v u hv hu => ?_, fun hr hout => ?_⟩⟩
  · rw [ofNat_toNat_add_255] at hu
    rw [exec_decInstr hv hu, decFlags_eq]
  · subst hr
    exact (exec_instrOf (.dec .atHL) s).trans (congrArg finish (readR8_atHL_bind_outside hout _))

/-! ## The rows INC rr and DEC rr -/

@[simp] theorem writeRR_f (s : State) (p : RR) (v : Word) : (writeRR s p v).f = s.f := by cases p <;> rfl

/-- Settles O18: one write of the pair, which reads back and leaves F. -/
theorem pairIncrementAndDecrementKeepFlags : Obligations.PairIncrementAndDecrementKeepFlags := by
  refine fun p => ⟨by cases p <;> rfl, by cases p <;> rfl, fun s =>
    ⟨?_, ?_, fun v => ⟨readRR_writeRR s p v, writeRR_f s p v⟩⟩⟩
  · rw [ofNat_toNat_add_one]
    exact exec_instrOf (.incRR p) s
  · rw [ofNat_toNat_add_65535]
    exact exec_instrOf (.decRR p) s

/-! ## INC and DEC undo each other (R73) -/

/-- F is no 8-bit operand. -/
theorem readR8_with_f (s : State) (r : R8) (x : Byte) : readR8 { s with f := x } r = readR8 s r := by cases r <;> rfl

/-- (HL) is readable only inside memory. -/
theorem inMemory_of_readR8 {s : State} {r : R8} {v : Byte} (h : readR8 s r = .ok v) : r = .atHL → inMemory s s.hl := by
  rintro rfl
  exact (readByte_eq_ok.mp h).1

/-- A write of an 8-bit operand keeps memory canonical, and the operand reads back as written (R49, R58). -/
theorem readR8_writeR8 {s u : State} {r : R8} {v : Byte} (hwf : Memory.wf s.mem = true) (h : writeR8 s r v = .ok u) :
    Memory.wf u.mem = true ∧ readR8 u r = .ok v := by
  cases r
  case atHL =>
    obtain ⟨hin, rfl⟩ := writeByte_eq_ok.mp h
    exact ⟨Memory.wf_write _ _ _ hwf, readByte_eq_ok.mpr ⟨hin, Memory.read_write_same _ _ _ hwf⟩⟩
  all_goals
    cases h
    exact ⟨hwf, rfl⟩

/-- The instruction completes in a state with canonical memory in which the operand is `w` and Z says whether `w` is
zero. -/
def LeavesOperand (i : Instr) (s : State) (r : R8) (w : Byte) : Prop :=
  ∃ t, exec i s = .next t ∧ Memory.wf t.mem = true ∧ readR8 t r = .ok w ∧ t.flag .z = decide (w = 0)

section
variable {s : State} {r : R8} {v : Byte} (hwf : Memory.wf s.mem = true) (hv : readR8 s r = .ok v)
include hwf hv

/-- A readable operand can be written: what then writes F from the result leaves that operand. -/
theorem leavesOperand_of_update {i : Instr} {w : Byte} {n h c : Bool}
    (hi : ∀ u, writeR8 s r w = .ok u → exec i s = .next { u with f := flagsByte (w == 0) n h c }) :
    LeavesOperand i s r w := by
  obtain ⟨u, hu⟩ := writeR8_completes_of_inMemory (inMemory_of_readR8 hv) w
  obtain ⟨hwf', hread⟩ := readR8_writeR8 hwf hu
  exact ⟨_, hi u hu, hwf', (readR8_with_f u r _).trans hread, by simp [Bool.beq_eq_decide_eq]⟩

theorem incInstr_leaves : LeavesOperand (incInstr r) s r (v + 1) :=
  leavesOperand_of_update hwf hv fun _ => exec_incInstr hv

theorem decInstr_leaves : LeavesOperand (decInstr r) s r (v - 1) :=
  leavesOperand_of_update hwf hv fun _ => exec_decInstr hv

end

/-- Settles O19: the second instruction finds the operand the first left, and one more and one less cancel. -/
theorem incrementAndDecrementUndoEachOther : Obligations.IncrementAndDecrementUndoEachOther := by
  intro s r v hwf hv
  constructor
  · obtain ⟨t, ht, htwf, htr, htz⟩ := incInstr_leaves hwf hv
    obtain ⟨u, hu, -, hur, huz⟩ := decInstr_leaves htwf htr
    rw [BitVec.add_sub_cancel] at hur huz
    exact ⟨t, u, _, ht, hu, htr, hur, htz, huz⟩
  · obtain ⟨t, ht, htwf, htr, htz⟩ := decInstr_leaves hwf hv
    obtain ⟨u, hu, -, hur, huz⟩ := incInstr_leaves htwf htr
    rw [BitVec.sub_add_cancel] at hur huz
    exact ⟨t, u, _, ht, hu, htr, hur, htz, huz⟩

end Sys2Proof.Machine
end

section
/-! SUPPORT. The ALU (spec/42_alu.md R77 to R91): bytes and words built from numbers, each operation as numbers, then
the statements, the 8-bit operations through one rule for their three operand forms (R77). -/

namespace Sys2Proof.Machine

/-- A form's row answers the state its shared operation does. -/
theorem exec_of_handler_eq_ok {x : Form} {s t : State} (h : handler x s = .ok t) : exec (instrOf x) s = .next t := by
  rw [exec_instrOf, h, finish_ok]

/-! ## Results as numbers -/

theorem boolByte_eq_ofNat (b : Bool) : boolByte b = BitVec.ofNat 8 b.toNat := by cases b <;> rfl

/-- A sum is zero exactly when the number is a multiple of 256. -/
theorem ofNat_beq_zero (n : Nat) : (BitVec.ofNat 8 n == 0) = decide (n % 256 = 0) := by
  rw [Bool.beq_eq_decide_eq, decide_eq_decide, ← BitVec.toNat_inj, BitVec.toNat_ofNat]; rfl

/-- The same for a difference, which can be negative. -/
theorem ofInt_beq_zero (n : Int) : (BitVec.ofInt 8 n == 0) = decide (n % 256 = 0) := by
  rw [Bool.beq_eq_decide_eq, decide_eq_decide, ← BitVec.toNat_inj, BitVec.toNat_ofInt]
  show (n % 256).toNat = 0 ↔ n % 256 = 0
  omega

theorem sub_beq_zero (a v : Byte) : (a - v == 0) = decide (a = v) := by
  rw [Bool.beq_eq_decide_eq, decide_eq_decide]; bv_omega

theorem ofInt_sub_natCast (x : Int) (n : Nat) : BitVec.ofInt 8 (x - n) = BitVec.ofInt 8 x - BitVec.ofNat 8 n := by
  rw [Int.sub_eq_add_neg, BitVec.ofInt_add, BitVec.ofInt_neg, BitVec.ofInt_natCast, BitVec.sub_eq_add_neg]

theorem sub_eq_ofInt (a v : Byte) : a - v = BitVec.ofInt 8 ((a.toNat : Int) - v.toNat) := by
  rw [ofInt_sub_natCast, BitVec.ofInt_natCast, BitVec.ofNat_toNat, BitVec.ofNat_toNat, BitVec.setWidth_eq,
    BitVec.setWidth_eq]

/-! ## The 8-bit operations, A and F from the two operands -/

theorem addA_eq (v : Byte) (s : State) : addA v s =
    { s with a := BitVec.ofNat 8 (s.a.toNat + v.toNat)
             f := flagsByte (decide ((s.a.toNat + v.toNat) % 256 = 0)) false
               (decide (s.a.toNat % 16 + v.toNat % 16 ≥ 16)) (decide (s.a.toNat + v.toNat ≥ 256)) } := by
  simp only [addA, State.writeFlags_all, halfCarryAdd_eq, carry8_eq, BitVec.add_def, ofNat_beq_zero]
  rfl

theorem adcA_eq (v : Byte) (s : State) : adcA v s =
    { s with a := BitVec.ofNat 8 (s.a.toNat + v.toNat + (s.flag .c).toNat)
             f := flagsByte (decide ((s.a.toNat + v.toNat + (s.flag .c).toNat) % 256 = 0)) false
               (decide (s.a.toNat % 16 + v.toNat % 16 + (s.flag .c).toNat ≥ 16))
               (decide (s.a.toNat + v.toNat + (s.flag .c).toNat ≥ 256)) } := by
  have hres : s.a + v + boolByte (s.flag .c) = BitVec.ofNat 8 (s.a.toNat + v.toNat + (s.flag .c).toNat) := by
    rw [BitVec.ofNat_add, ← BitVec.add_def, boolByte_eq_ofNat]
  simp only [adcA, State.writeFlags_all, hcAdc_eq, carry8_eq, hres, ofNat_beq_zero]
  rfl

/-- The flags of SUB and CP (R80, R85). -/
theorem subFlags_eq (a v : Byte) :
    flagsByte (a - v == 0) true (halfCarrySub a v) (borrow8 a v false) =
      flagsByte (decide (a = v)) true (decide (a.toNat % 16 < v.toNat % 16)) (decide (a.toNat < v.toNat)) := by
  rw [sub_beq_zero, halfCarrySub_eq, borrow8_eq]; rfl

theorem subA_eq (v : Byte) (s : State) : subA v s =
    { s with a := BitVec.ofInt 8 ((s.a.toNat : Int) - v.toNat)
             f := flagsByte (decide (s.a = v)) true (decide (s.a.toNat % 16 < v.toNat % 16))
               (decide (s.a.toNat < v.toNat)) } := by
  rw [subA, State.writeFlags_all, subFlags_eq, sub_eq_ofInt]; rfl

theorem cpA_eq (v : Byte) (s : State) : cpA v s =
    { s with f := flagsByte (decide (s.a = v)) true (decide (s.a.toNat % 16 < v.toNat % 16))
               (decide (s.a.toNat < v.toNat)) } := by
  rw [cpA, State.writeFlags_all, subFlags_eq]

theorem sbcA_eq (v : Byte) (s : State) : sbcA v s =
    { s with a := BitVec.ofInt 8 ((s.a.toNat : Int) - v.toNat - (s.flag .c).toNat)
             f := flagsByte (decide (((s.a.toNat : Int) - v.toNat - (s.flag .c).toNat) % 256 = 0)) true
               (decide (s.a.toNat % 16 < v.toNat % 16 + (s.flag .c).toNat))
               (decide (s.a.toNat < v.toNat + (s.flag .c).toNat)) } := by
  have hres : s.a - v - boolByte (s.flag .c) =
      BitVec.ofInt 8 ((s.a.toNat : Int) - v.toNat - (s.flag .c).toNat) := by
    rw [ofInt_sub_natCast, ← sub_eq_ofInt, boolByte_eq_ofNat]
  simp only [sbcA, State.writeFlags_all, hbSbc_eq, borrow8_eq, hres, ofInt_beq_zero]
  rfl

theorem andA_eq (v : Byte) (s : State) : andA v s =
    { s with a := s.a &&& v, f := flagsByte (decide (s.a &&& v = 0)) false true false } :=
  State.writeFlags_all ..

theorem xorA_eq (v : Byte) (s : State) : xorA v s =
    { s with a := s.a ^^^ v, f := flagsByte (decide (s.a = v)) false false false } := by
  have hz : (s.a ^^^ v == 0) = decide (s.a = v) := by
    rw [Bool.beq_eq_decide_eq, decide_eq_decide]; exact BitVec.xor_eq_zero_iff
  rw [xorA, State.writeFlags_all, hz]; rfl

theorem orA_eq (v : Byte) (s : State) : orA v s =
    { s with a := s.a ||| v, f := flagsByte (decide (s.a = 0 ∧ v = 0)) false false false } := by
  have hz : (s.a ||| v == 0) = decide (s.a = 0 ∧ v = 0) := by
    rw [Bool.beq_eq_decide_eq, decide_eq_decide]; exact BitVec.or_eq_zero_iff
  rw [orA, State.writeFlags_all, hz]; rfl

/-! ## The three operand forms (R77) -/

theorem encode_aluInstr (o : AluOp) (r : R8) :
    encode (aluInstr o r) = [BitVec.ofNat 8 (0x80 + 8 * codeAlu o + codeR8 r)] := by
  cases o <;> cases r <;> rfl

theorem encode_aluImmInstr (o : AluOp) (n : Byte) :
    encode (aluImmInstr o n) = [BitVec.ofNat 8 (0xC6 + 8 * codeAlu o), n] := by
  cases o <;> rfl

/-- Every form runs the operation on its second operand: what that gives is what the forms answer. -/
theorem aluForms_of_aluOp_eq {o : AluOp} {result : State → Byte → State} (h : ∀ v s, aluOp o v s = result s v) :
    AluForms o result := by
  refine ⟨encode_aluInstr o, encode_aluImmInstr o, fun s => ⟨fun r v hv => ?_, fun n => ?_, fun hout => ?_⟩⟩
  · exact exec_of_handler_eq_ok (x := .alu o r) (aluR8_eq_ok.mpr ⟨v, hv, (h v s).symm⟩)
  · exact exec_of_handler_eq_ok (x := .aluImm o n) (congrArg Except.ok (h n s))
  · exact (exec_instrOf (.alu o .atHL) s).trans (congrArg finish (readR8_atHL_bind_outside hout _))

/-- Settles O20, form by form. -/
theorem addAndAdcWriteSumAndFlags : Obligations.AddAndAdcWriteSumAndFlags :=
  ⟨aluForms_of_aluOp_eq addA_eq, aluForms_of_aluOp_eq adcA_eq⟩

/-- Settles O21, form by form. -/
theorem subSbcAndCpWriteDifferenceAndFlags : Obligations.SubSbcAndCpWriteDifferenceAndFlags :=
  ⟨aluForms_of_aluOp_eq subA_eq, aluForms_of_aluOp_eq sbcA_eq, aluForms_of_aluOp_eq cpA_eq⟩

/-- Settles O22, form by form. -/
theorem logicOperationsFixHAndC : Obligations.LogicOperationsFixHAndC :=
  ⟨aluForms_of_aluOp_eq andA_eq, aluForms_of_aluOp_eq xorA_eq, aluForms_of_aluOp_eq orA_eq⟩

/-! ## 16-bit sums -/

theorem addHL_eq (p : RR) (s : State) : addHL p s = .ok
    { s with h := BitVec.ofNat 8 ((s.hl.toNat + (readRR s p).toNat) / 256)
             l := BitVec.ofNat 8 (s.hl.toNat + (readRR s p).toNat)
             f := flagsByte (s.flag .z) false (decide (s.hl.toNat % 4096 + (readRR s p).toNat % 4096 ≥ 4096))
               (decide (s.hl.toNat + (readRR s p).toNat ≥ 65536)) } := by
  have hh : BitVec.ofNat 8 ((s.hl + readRR s p).toNat / 256) =
      BitVec.ofNat 8 ((s.hl.toNat + (readRR s p).toNat) / 256) := by bv_omega
  have hl : BitVec.ofNat 8 (s.hl + readRR s p).toNat = BitVec.ofNat 8 (s.hl.toNat + (readRR s p).toNat) := by bv_omega
  rw [addHL, State.writeFlags_nhc, setHL_eq, halfCarryWideAdd_eq, carry16_eq, hh, hl]; rfl

/-- Settles O23: the row runs the shared sum. -/
theorem addHLWritesNHCAndKeepsZ : Obligations.AddHLWritesNHCAndKeepsZ := fun p =>
  ⟨by cases p <;> rfl, fun s => exec_of_handler_eq_ok (x := .addHL p) (addHL_eq p s)⟩

/-- The offset byte is two's complement: a set bit 7 adds 0xFF00 (R6). -/
theorem sext16_eq_ofInt (e : Byte) : sext16 e = BitVec.ofInt 16 e.toInt := by
  show _ = e.signExtend 16
  apply BitVec.eq_of_toNat_eq
  rw [BitVec.toNat_signExtend, BitVec.msb_eq_getLsbD_last, sext16, getBit]
  split
  · rw [BitVec.toNat_add, zext16, BitVec.toNat_setWidth]
    show (e.toNat % 65536 + 65280) % 65536 = e.toNat % 65536 + 65280
    omega
  · rfl

theorem add_sext16_eq_ofInt (sp : Word) (e : Byte) : sp + sext16 e = BitVec.ofInt 16 ((sp.toNat : Int) + e.toInt) := by
  rw [BitVec.ofInt_add, BitVec.ofInt_natCast, BitVec.ofNat_toNat, BitVec.setWidth_eq, sext16_eq_ofInt]

theorem writeFlags_spOffsetFlags (s : State) (sp : Word) (e : Byte) : s.writeFlags (spOffsetFlags sp e) =
    { s with f := flagsByte false false (decide (sp.toNat % 16 + e.toNat % 16 ≥ 16))
                   (decide (sp.toNat % 256 + e.toNat ≥ 256)) } := by
  have hlo : (loByte sp).toNat = sp.toNat % 256 := by rw [loByte_eq_ofNat, BitVec.toNat_ofNat]
  have hnibble : sp.toNat % 256 % 16 = sp.toNat % 16 := by omega
  rw [spOffsetFlags, State.writeFlags_all, halfCarryAdd_eq, carry8_eq, hlo, hnibble]; rfl

/-- Settles O24: one offset and one set of flags for both rows. -/
theorem signedOffsetToSP : Obligations.SignedOffsetToSP := by
  refine fun s e => ⟨rfl, rfl, exec_of_handler_eq_ok (x := .addSP e) ?_, exec_of_handler_eq_ok (x := .ldHLSP e) ?_⟩
  · rw [handler, addSP, writeFlags_spOffsetFlags, add_sext16_eq_ofInt]; rfl
  · rw [handler, loadHLSP, writeFlags_spOffsetFlags, add_sext16_eq_ofInt, setHL_eq]

/-! ## Decimal adjust (R88) -/

/-- A correction that is added or not, as a number. -/
theorem toNat_add_if (p : Prop) [Decidable p] (a k : Byte) :
    (if p then a + k else a).toNat = if p then (a.toNat + k.toNat) % 256 else a.toNat := by
  rw [apply_ite BitVec.toNat, BitVec.toNat_add]

/-- A correction that is subtracted or not, as a number. -/
theorem toNat_sub_if (p : Prop) [Decidable p] (a k : Byte) :
    (if p then a - k else a).toNat = if p then (a.toNat + 256 - k.toNat) % 256 else a.toNat := by
  rw [apply_ite BitVec.toNat, BitVec.toNat_sub, show 2 ^ 8 - k.toNat + a.toNat = a.toNat + 256 - k.toNat by omega]

theorem toNat_highNibble (a : Byte) : (a >>> 4).toNat = a.toNat / 16 := by
  rw [BitVec.toNat_ushiftRight, Nat.shiftRight_eq_div_pow]

/-- The answer of a DAA algorithm on bytes is its answer on numbers. -/
def SameAnswer (r : Byte × Bool) (n : Nat × Bool) : Prop := r.1.toNat = n.1 ∧ r.2 = n.2

theorem daaDocument_sameAnswer (a : Byte) (h c : Bool) :
    SameAnswer (daaDocument a h c) (daaDocumentNat a.toNat h c) := by
  simp only [daaDocument, daaDocumentNat, Bool.or_eq_true, decide_eq_true_eq, toNat_and_lowNibble, toNat_highNibble,
    toNat_add_if]
  rw [← show (0x06 : Byte).toNat = 6 from rfl, ← toNat_add_if]
  generalize (if h = true ∨ a.toNat % 16 > 9 then a + 0x06 else a) = low
  split
  · exact ⟨BitVec.toNat_add .., rfl⟩
  · exact ⟨rfl, rfl⟩

theorem daaSm83_sameAnswer (a : Byte) (n h c : Bool) : SameAnswer (daaSm83 a n h c) (daaSm83Nat a.toNat n h c) := by
  cases n
  case false =>
    simp only [SameAnswer, daaSm83, daaSm83Nat, Bool.false_eq_true, if_false, Bool.or_eq_true, decide_eq_true_eq,
      toNat_and_lowNibble, toNat_add_if]
    exact ⟨rfl, by rw [Bool.decide_or, Bool.decide_eq_true]⟩
  case true =>
    simp only [SameAnswer, daaSm83, daaSm83Nat, if_true, toNat_sub_if]
    exact ⟨rfl, trivial⟩

/-- DAA writes its algorithm's answer, with Z from it, H = 0 and N kept. -/
theorem decimalAdjust_of_sameAnswer {s : State} {r : Nat × Bool} (h : SameAnswer (daaResult s) r) :
    decimalAdjust s = .ok
      { s with a := BitVec.ofNat 8 r.1, f := flagsByte (decide (r.1 = 0)) (s.flag .n) false r.2 } := by
  obtain ⟨hval, hcarry⟩ := h
  have hz : ((daaResult s).1 == 0) = decide (r.1 = 0) := by
    rw [Bool.beq_eq_decide_eq, decide_eq_decide, ← hval, ← BitVec.toNat_inj]; rfl
  rw [decimalAdjust, State.writeFlags_zhc, hz, hcarry, ← hval, BitVec.ofNat_toNat, BitVec.setWidth_eq]
  rfl

/-- Settles O25, by the machine's algorithm. -/
theorem decimalAdjustFollowsItsAlgorithm : Obligations.DecimalAdjustFollowsItsAlgorithm := by
  refine ⟨rfl, fun s => ⟨fun hcfg => ?_, fun hcfg => ?_⟩⟩ <;>
    refine exec_of_handler_eq_ok (x := .daa) (decimalAdjust_of_sameAnswer ?_)
  · rw [daaResult, hcfg]; exact daaDocument_sameAnswer ..
  · rw [daaResult, hcfg]; exact daaSm83_sameAnswer ..

/-! ## CPL, SCF and CCF -/

theorem not_eq_ofNat (a : Byte) : ~~~a = BitVec.ofNat 8 (255 - a.toNat) := by
  apply BitVec.eq_of_toNat_eq
  rw [BitVec.toNat_not, BitVec.toNat_ofNat]; omega

theorem complementA_eq (s : State) : complementA s = .ok
    { s with a := BitVec.ofNat 8 (255 - s.a.toNat), f := flagsByte (s.flag .z) true true (s.flag .c) } := by
  rw [complementA, State.writeFlags_nh, not_eq_ofNat]; rfl

theorem setCarry_eq (s : State) : setCarry s = .ok { s with f := flagsByte (s.flag .z) false false true } :=
  congrArg Except.ok (State.writeFlags_nhc ..)

theorem complementCarry_eq (s : State) :
    complementCarry s = .ok { s with f := flagsByte (s.flag .z) false false (!s.flag .c) } :=
  congrArg Except.ok (State.writeFlags_nhc ..)

/-- Settles O26, row by row. -/
theorem complementAndCarryInstructions : Obligations.ComplementAndCarryInstructions :=
  ⟨rfl, rfl, rfl, fun s => ⟨exec_of_handler_eq_ok (x := .cpl) (complementA_eq s),
    exec_of_handler_eq_ok (x := .scf) (setCarry_eq s), exec_of_handler_eq_ok (x := .ccf) (complementCarry_eq s)⟩⟩

end Sys2Proof.Machine
end

section
/-! SUPPORT. Rotates, shifts, SWAP and single bits (spec/43_rotate_shift_bit.md R92 to R118): each bit movement as
numbers, one rule for the accumulator rotates and one for the CB forms, then the statements. -/

namespace Sys2Proof.Machine

/-! ## Bits and bytes as numbers -/

theorem getBit_seven (v : Byte) : getBit v 7 = decide (v.toNat ≥ 128) :=
  testBit_top_eq_decide v.isLt

theorem getBit_zero (v : Byte) : getBit v 0 = decide (v.toNat % 2 = 1) :=
  Nat.testBit_zero v.toNat

theorem toNat_getBit_seven (v : Byte) : (getBit v 7).toNat = v.toNat / 128 := by
  rw [getBit_seven, Bool.toNat, Bool.cond_decide]; split <;> omega

theorem toNat_getBit_zero (v : Byte) : (getBit v 0).toNat = v.toNat % 2 := by
  rw [getBit_zero, Bool.toNat, Bool.cond_decide]; split <;> omega

theorem toNat_boolByte (b : Bool) : (boolByte b).toNat = b.toNat := by cases b <;> rfl

/-- A shifted value leaves its low bits free: an `|||` that fills them is a sum. -/
theorem toNat_shiftLeft_or {w k : Nat} (x y : BitVec w) (hk : k ≤ w) (hy : y.toNat < 2 ^ k) :
    (x <<< k ||| y).toNat = 2 ^ k * x.toNat % 2 ^ w + y.toNat := by
  have hshift : (x <<< k).toNat = (x.toNat % 2 ^ (w - k)) <<< k := by
    rw [BitVec.toNat_shiftLeft, Nat.shiftLeft_eq, Nat.shiftLeft_eq, ← Nat.mul_mod_mul_right, ← pow_add,
      Nat.sub_add_cancel hk]
  rw [BitVec.toNat_or, hshift, ← Nat.shiftLeft_add_eq_or_of_lt hy, ← hshift, BitVec.toNat_shiftLeft, Nat.shiftLeft_eq,
    Nat.mul_comm]

/-! ## The bit movements (R92, R111) -/

theorem toNat_shiftRight_one (v : Byte) : (v >>> 1).toNat = v.toNat / 2 := by
  rw [BitVec.toNat_ushiftRight, Nat.shiftRight_eq_div_pow]

/-- One place to the left, with a bit moved in below. -/
theorem toNat_shiftLeft_one_or (v : Byte) (b : Bool) :
    (v <<< 1 ||| boolByte b).toNat = 2 * v.toNat % 256 + b.toNat := by
  have hb : (boolByte b).toNat < 2 ^ 1 := by rw [toNat_boolByte]; exact b.toNat_lt
  rw [toNat_shiftLeft_or v _ (by omega) hb, toNat_boolByte]; rfl

/-- One place to the right, with a bit moved in above. -/
theorem toNat_shiftRight_one_or (v : Byte) (b : Bool) :
    (v >>> 1 ||| boolByte b <<< 7).toNat = v.toNat / 2 + 128 * b.toNat := by
  have hv : (v >>> 1).toNat < 2 ^ 7 := by rw [toNat_shiftRight_one]; omega
  have hb := b.toNat_le
  rw [BitVec.or_comm, toNat_shiftLeft_or _ _ (by omega) hv, toNat_shiftRight_one, toNat_boolByte]
  omega

theorem rlcBits_sameAnswer (v : Byte) :
    SameAnswer (rlcBits v) (2 * v.toNat % 256 + v.toNat / 128, decide (v.toNat ≥ 128)) := by
  refine ⟨?_, getBit_seven v⟩
  rw [rlcBits, toNat_shiftLeft_one_or, toNat_getBit_seven]

theorem rlBits_sameAnswer (v : Byte) (c : Bool) :
    SameAnswer (rlBits v c) (2 * v.toNat % 256 + c.toNat, decide (v.toNat ≥ 128)) :=
  ⟨toNat_shiftLeft_one_or v c, getBit_seven v⟩

theorem slaBits_sameAnswer (v : Byte) :
    SameAnswer (slaBits v) (2 * v.toNat % 256, decide (v.toNat ≥ 128)) := by
  refine ⟨?_, getBit_seven v⟩
  rw [slaBits, BitVec.toNat_shiftLeft, Nat.shiftLeft_eq, Nat.mul_comm]

theorem rrcBits_sameAnswer (v : Byte) :
    SameAnswer (rrcBits v) (v.toNat / 2 + 128 * (v.toNat % 2), decide (v.toNat % 2 = 1)) := by
  refine ⟨?_, getBit_zero v⟩
  rw [rrcBits, toNat_shiftRight_one_or, toNat_getBit_zero]

theorem rrBits_sameAnswer (v : Byte) (c : Bool) :
    SameAnswer (rrBits v c) (v.toNat / 2 + 128 * c.toNat, decide (v.toNat % 2 = 1)) :=
  ⟨toNat_shiftRight_one_or v c, getBit_zero v⟩

/-- The mask of SRA is bit 7 in its own place. -/
theorem and_bit_seven (v : Byte) : v &&& (0x80 : Byte) = boolByte (getBit v 7) <<< 7 := by
  revert v; decide

theorem sraBits_sameAnswer (v : Byte) :
    SameAnswer (sraBits v) (v.toNat / 2 + 128 * (v.toNat / 128), decide (v.toNat % 2 = 1)) := by
  refine ⟨?_, getBit_zero v⟩
  rw [sraBits, and_bit_seven, toNat_shiftRight_one_or, toNat_getBit_seven]

theorem srlBits_sameAnswer (v : Byte) : SameAnswer (srlBits v) (v.toNat / 2, decide (v.toNat % 2 = 1)) :=
  ⟨toNat_shiftRight_one v, getBit_zero v⟩

theorem swapBits_sameAnswer (v : Byte) : SameAnswer (swapBits v) (16 * (v.toNat % 16) + v.toNat / 16, false) := by
  refine ⟨?_, rfl⟩
  have hhigh : (v >>> 4).toNat < 2 ^ 4 := by rw [toNat_highNibble]; omega
  rw [swapBits, toNat_shiftLeft_or _ _ (by omega) hhigh, toNat_and_lowNibble, toNat_highNibble]
  omega

/-! ## The accumulator rotates (R93 to R96) -/

/-- The byte of an answer is the byte of its number. -/
theorem SameAnswer.eq_ofNat {r : Byte × Bool} {n : Nat × Bool} (h : SameAnswer r n) : r.1 = BitVec.ofNat 8 n.1 :=
  BitVec.eq_of_toNat_eq (by rw [BitVec.toNat_ofNat, ← h.1, Nat.mod_eq_of_lt r.1.isLt])

theorem exec_accRotInstr_of_sameAnswer {o : AccRot} {s : State} {r : Nat × Bool}
    (h : SameAnswer (accBits o s.a (s.flag .c)) r) :
    exec (accRotInstr o) s = .next { s with a := BitVec.ofNat 8 r.1, f := flagsByte false false false r.2 } := by
  refine exec_of_handler_eq_ok (x := .accRot o) ?_
  rw [handler, accRotate, State.writeFlags_all, h.eq_ofNat, h.2]; rfl

/-- Settles O27, rotate by rotate. -/
theorem accumulatorRotatesClearZ : Obligations.AccumulatorRotatesClearZ :=
  ⟨rfl, rfl, rfl, rfl, fun s =>
    ⟨exec_accRotInstr_of_sameAnswer (o := .rlca) (rlcBits_sameAnswer s.a),
      exec_accRotInstr_of_sameAnswer (o := .rla) (rlBits_sameAnswer s.a _),
      exec_accRotInstr_of_sameAnswer (o := .rrca) (rrcBits_sameAnswer s.a),
      exec_accRotInstr_of_sameAnswer (o := .rra) (rrBits_sameAnswer s.a _)⟩⟩

/-! ## The CB forms (R97 to R112) -/

/-- A form that begins with a read of (HL) faults when HL lies outside memory, before any write (R34). -/
theorem exec_of_handler_reads_atHL {x : Form} {s : State} {k : Byte → Except Fault State}
    (h : handler x s = readR8 s .atHL >>= k) (hout : ¬ inMemory s s.hl) :
    exec (instrOf x) s = .fault (.outOfRange s.hl) := by
  rw [exec_instrOf, h, readR8_atHL_bind_outside hout, finish_error]

theorem SameAnswer.beq_zero {r : Byte × Bool} {n : Nat × Bool} (h : SameAnswer r n) :
    (r.1 == 0) = decide (n.1 = 0) := by
  rw [Bool.beq_eq_decide_eq, decide_eq_decide, ← h.1, ← BitVec.toNat_inj]; rfl

theorem encode_cbInstr (o : CbOp) (r : R8) :
    encode (cbInstr o r) = [0xCB, BitVec.ofNat 8 (8 * codeCb o + codeR8 r)] := by
  cases o <;> cases r <;> rfl

/-- Both forms of an operation write its answer on the operand: what that is as numbers is what they do. -/
theorem cbForms_of_sameAnswer {o : CbOp} {res : Nat → Nat → Nat} {out : Nat → Bool}
    (h : ∀ v c, SameAnswer (cbBits o v c) (res v.toNat c.toNat, out v.toNat)) : CbForms o res out := by
  refine fun r => ⟨encode_cbInstr o r, fun s => ⟨fun v u hv hu => ?_, fun hr hout => ?_⟩⟩
  · have hans := h v (s.flag .c)
    refine exec_of_handler_eq_ok (x := .cb o r) (cbR8_eq_ok.mpr ⟨v, u, hv, hans.eq_ofNat ▸ hu, ?_⟩)
    rw [hans.beq_zero, hans.2]
  · subst hr
    exact exec_of_handler_reads_atHL (x := .cb o .atHL) rfl hout

/-- Settles O28, movement by movement. -/
theorem leftRotatesAndShifts : Obligations.LeftRotatesAndShifts :=
  ⟨cbForms_of_sameAnswer fun v _ => rlcBits_sameAnswer v, cbForms_of_sameAnswer rlBits_sameAnswer,
    cbForms_of_sameAnswer fun v _ => slaBits_sameAnswer v⟩

/-- Settles O29, movement by movement. -/
theorem rightRotatesAndShifts : Obligations.RightRotatesAndShifts :=
  ⟨cbForms_of_sameAnswer fun v _ => rrcBits_sameAnswer v, cbForms_of_sameAnswer rrBits_sameAnswer,
    cbForms_of_sameAnswer fun v _ => sraBits_sameAnswer v, cbForms_of_sameAnswer fun v _ => srlBits_sameAnswer v⟩

/-- Settles O30: SWAP is a CB form like the shifts. -/
theorem swapExchangesNibbles : Obligations.SwapExchangesNibbles :=
  cbForms_of_sameAnswer fun v _ => swapBits_sameAnswer v

/-! ## Single bits (R113 to R118) -/

theorem encode_bitInstr (i : Fin 8) (r : R8) :
    encode (bitInstr i r) = [0xCB, BitVec.ofNat 8 (0x40 + 8 * i.val + codeR8 r)] := by
  fin_cases i <;> cases r <;> rfl

theorem encode_resInstr (i : Fin 8) (r : R8) :
    encode (resInstr i r) = [0xCB, BitVec.ofNat 8 (0x80 + 8 * i.val + codeR8 r)] := by
  fin_cases i <;> cases r <;> rfl

theorem encode_setInstr (i : Fin 8) (r : R8) :
    encode (setInstr i r) = [0xCB, BitVec.ofNat 8 (0xC0 + 8 * i.val + codeR8 r)] := by
  fin_cases i <;> cases r <;> rfl

/-- Settles O31: the row reads its operand and then writes F alone. -/
theorem bitTestsWithoutWriting : Obligations.BitTestsWithoutWriting := by
  refine fun i r => ⟨encode_bitInstr i r, fun s => ⟨fun v hv => ?_, fun hr hout => ?_⟩⟩
  · exact exec_of_handler_eq_ok (x := .bit i r) (bitTest_eq_ok.mpr ⟨v, hv, rfl⟩)
  · subst hr
    exact exec_of_handler_reads_atHL (x := .bit i .atHL) rfl hout

theorem getLsbD_one_shiftLeft (w i j : Nat) : (1#w <<< i).getLsbD j = (decide (i < w) && decide (i = j)) :=
  BitVec.getLsbD_twoPow i j

section
variable {w i : Nat} {v x : BitVec w}

theorem eq_clearBit_of_getLsbD (h : ∀ j < w, x.getLsbD j = if j = i then false else v.getLsbD j) :
    x = clearBit v i := by
  refine BitVec.eq_of_getLsbD_eq fun j hj => ?_
  rw [h j hj, clearBit, BitVec.getLsbD_and, BitVec.getLsbD_not, getLsbD_one_shiftLeft]
  by_cases hji : j = i
  · subst hji; simp [hj]
  · simp [hji, Ne.symm hji, hj]

theorem eq_setBit_of_getLsbD (h : ∀ j < w, x.getLsbD j = if j = i then true else v.getLsbD j) :
    x = setBit v i := by
  refine BitVec.eq_of_getLsbD_eq fun j hj => ?_
  rw [h j hj, setBit, BitVec.getLsbD_or, getLsbD_one_shiftLeft]
  by_cases hji : j = i
  · subst hji; simp [hj]
  · simp [hji, Ne.symm hji]

end

/-- Settles O32: the bits named fix the value that each row writes back. -/
theorem resAndSetWriteOneBit : Obligations.ResAndSetWriteOneBit := by
  refine fun i r => ⟨encode_resInstr i r, encode_setInstr i r, fun s =>
    ⟨fun v w u hv hw hu => ?_, fun v w u hv hw hu => ?_, fun hr hout => ?_⟩⟩
  · obtain rfl := eq_clearBit_of_getLsbD hw
    exact exec_of_handler_eq_ok (x := .res i r) (bitReset_eq_ok.mpr ⟨v, hv, hu⟩)
  · obtain rfl := eq_setBit_of_getLsbD hw
    exact exec_of_handler_eq_ok (x := .set i r) (bitSet_eq_ok.mpr ⟨v, hv, hu⟩)
  · subst hr
    exact ⟨exec_of_handler_reads_atHL (x := .res i .atHL) rfl hout,
      exec_of_handler_reads_atHL (x := .set i .atHL) rfl hout⟩

end Sys2Proof.Machine
end

section
/-! SUPPORT. Loads, stores and stack transfers (spec/44_loads.md R120 to R142): the two outcomes of a form that makes
one access, pushes or pops, said once each, then the statements. -/

namespace Sys2Proof.Machine

/-- A form's row faults as its shared operation does. -/
theorem exec_of_handler_eq_error {x : Form} {s : State} {f : Fault} (h : handler x s = .error f) :
    exec (instrOf x) s = .fault f := by
  rw [exec_instrOf, h, finish_error]

/-- The bytes of an opcode with a 16-bit operand, as numbers (R41, R57). -/
theorem wordOperandBytes_eq (op : Byte) (a : Word) :
    [op, loByte a, hiByte a] = [op, BitVec.ofNat 8 a.toNat, BitVec.ofNat 8 (a.toNat / 256)] := by
  rw [loByte_eq_ofNat, hiByte_eq_ofNat]

/-! ## Between registers, (HL) and an immediate (R120 to R124) -/

theorem encode_ldInstr {dst src : R8} (h : ¬ (dst = .atHL ∧ src = .atHL)) :
    encode (ldInstr dst src) = [BitVec.ofNat 8 (0x40 + 8 * codeR8 dst + codeR8 src)] := by
  revert h
  cases dst <;> cases src <;> intro h
  case atHL.atHL => exact absurd ⟨rfl, rfl⟩ h
  all_goals rfl

theorem encode_ldImmInstr (r : R8) (n : Byte) : encode (ldImmInstr r n) = [BitVec.ofNat 8 (8 * codeR8 r + 6), n] := by
  cases r <;> rfl

/-- A load from or to (HL) faults when HL lies outside memory, at its read or, after a register's, at its write. -/
theorem load_outside {dst src : R8} {s : State} (hhl : dst = .atHL ∨ src = .atHL) (hout : ¬ inMemory s s.hl) :
    load dst src s = .error (.outOfRange s.hl) := by
  by_cases hsrc : src = .atHL
  · subst hsrc
    exact readR8_atHL_bind_outside hout _
  · obtain rfl := hhl.resolve_right hsrc
    obtain ⟨v, hv⟩ := readR8_completes (s := s) fun h => absurd h hsrc
    rw [load, hv, ok_bind]
    exact writeByte_error hout

/-- Settles O33: the row reads its source and then writes its destination. -/
theorem eightBitLoadsCopyTheirSource : Obligations.EightBitLoadsCopyTheirSource := by
  refine ⟨fun dst src h => ⟨encode_ldInstr h, fun s => ⟨fun v u hv hu => ?_, fun hhl hout => ?_⟩⟩,
    fun r n => ⟨encode_ldImmInstr r n, fun s => ⟨fun u hu => ?_, fun hr hout => ?_⟩⟩⟩
  · exact exec_of_handler_eq_ok (x := .ld dst src) ((congrFun (handler_ld h) s).trans (load_eq_ok.mpr ⟨v, hv, hu⟩))
  · exact exec_of_handler_eq_error (x := .ld dst src) ((congrFun (handler_ld h) s).trans (load_outside hhl hout))
  · exact exec_of_handler_eq_ok (x := .ldImm r n) hu
  · subst hr
    exact exec_of_handler_eq_error (x := .ldImm .atHL n) (writeByte_error hout)

/-! ## A through a pointer (R125 to R130) -/

/-- A write of HL takes the value modulo 2^16 (R5). -/
theorem setHL_ofNat (s : State) (n : Nat) :
    s.setHL (BitVec.ofNat 16 n) = { s with h := BitVec.ofNat 8 (n / 256), l := BitVec.ofNat 8 n } := by
  have hhigh : BitVec.ofNat 8 ((BitVec.ofNat 16 n).toNat / 256) = BitVec.ofNat 8 (n / 256) := by bv_omega
  have hlow : BitVec.ofNat 8 (BitVec.ofNat 16 n).toNat = BitVec.ofNat 8 n := by bv_omega
  rw [setHL_eq, hhigh, hlow]

/-- HL after an access through a pointer, as a number that may lie past 2^16. -/
def indHL (s : State) : Ind → Nat
  | .bc | .de => s.hl.toNat
  | .hlInc => s.hl.toNat + 1
  | .hlDec => s.hl.toNat + 65535

theorem setHL_hl (s : State) : s.setHL s.hl = s := by
  rw [State.setHL, State.hl, hiByte_joinBytes, loByte_joinBytes]

theorem indUpdate_eq (s : State) (p : Ind) :
    indUpdate s p = { s with h := BitVec.ofNat 8 (indHL s p / 256), l := BitVec.ofNat 8 (indHL s p) } := by
  rw [← setHL_ofNat]
  cases p with
  | bc | de => rw [indHL, BitVec.ofNat_toNat, BitVec.setWidth_eq, setHL_hl]; rfl
  | hlInc => rw [indHL, ofNat_toNat_add_one]; rfl
  | hlDec => rw [indHL, ofNat_toNat_add_65535]; rfl

section
variable {s : State} {p : Ind}

theorem storeInd_ok (h : inMemory s (indAddr s p)) : storeInd p s = .ok
    { s with mem := Memory.write s.mem (indAddr s p).toNat s.a
             h := BitVec.ofNat 8 (indHL s p / 256), l := BitVec.ofNat 8 (indHL s p) } :=
  storeInd_eq_ok.mpr ⟨h, by rw [indUpdate_eq]; rfl⟩

theorem loadInd_ok (h : inMemory s (indAddr s p)) : loadInd p s = .ok
    { s with a := peek s (indAddr s p)
             h := BitVec.ofNat 8 (indHL s p / 256), l := BitVec.ofNat 8 (indHL s p) } :=
  loadInd_eq_ok.mpr ⟨h, by rw [indUpdate_eq]; rfl⟩

theorem storeInd_error (h : ¬ inMemory s (indAddr s p)) : storeInd p s = .error (.outOfRange (indAddr s p)) := by
  rw [storeInd, writeByte_error h, error_bind]

theorem loadInd_error (h : ¬ inMemory s (indAddr s p)) : loadInd p s = .error (.outOfRange (indAddr s p)) := by
  rw [loadInd, readByte_error h, error_bind]

end

/-- Settles O34: the access at the pointer's address, then its update of HL. -/
theorem indirectLoadsUpdateHLAfterTheAccess : Obligations.IndirectLoadsUpdateHLAfterTheAccess := fun p =>
  ⟨by cases p <;> rfl, by cases p <;> rfl, fun _ =>
    ⟨fun hin => ⟨exec_of_handler_eq_ok (x := .ldIndA p) (storeInd_ok hin),
        exec_of_handler_eq_ok (x := .ldAInd p) (loadInd_ok hin)⟩,
      fun hout => ⟨exec_of_handler_eq_error (x := .ldIndA p) (storeInd_error hout),
        exec_of_handler_eq_error (x := .ldAInd p) (loadInd_error hout)⟩⟩⟩

/-! ## A at a near or a far address (R131 to R136) -/

theorem near_eq_ofNat (o : Byte) : near o = BitVec.ofNat 16 (0xFF00 + o.toNat) := by
  rw [BitVec.ofNat_add, BitVec.ofNat_toNat]; rfl

theorem storesByte_of_handler {x : Form} {s : State} {a : Word} {v : Byte} (h : handler x s = writeByte s a v) :
    StoresByte (instrOf x) s a v :=
  ⟨fun hin => exec_of_handler_eq_ok (h.trans (writeByte_ok hin)),
    fun hout => exec_of_handler_eq_error (h.trans (writeByte_error hout))⟩

theorem loadsA_of_handler {x : Form} {s : State} {a : Word} (h : handler x s = loadA a s) :
    LoadsA (instrOf x) s a :=
  ⟨fun hin => exec_of_handler_eq_ok (h.trans (loadA_eq_ok.mpr ⟨hin, rfl⟩)),
    fun hout => exec_of_handler_eq_error (by rw [h, loadA, readByte_error hout, error_bind])⟩

/-- Settles O35: one store and one load of A at three addresses. -/
theorem nearAndFarAccessesMoveA : Obligations.NearAndFarAccessesMoveA := by
  intro s n a
  rw [← near_eq_ofNat, ← near_eq_ofNat]
  exact ⟨rfl, rfl, rfl, rfl, wordOperandBytes_eq 0xEA a, wordOperandBytes_eq 0xFA a,
    storesByte_of_handler (x := .ldhStore n) rfl, loadsA_of_handler (x := .ldhLoad n) rfl,
    storesByte_of_handler (x := .ldCStore) rfl, loadsA_of_handler (x := .ldCLoad) rfl,
    storesByte_of_handler (x := .ldFarStore a) rfl, loadsA_of_handler (x := .ldFarLoad a) rfl⟩

/-! ## 16-bit loads (R137 to R139) -/

theorem encode_ldRRInstr (p : RR) (n : Word) : encode (ldRRInstr p n) =
    [BitVec.ofNat 8 (16 * codeRR p + 1), BitVec.ofNat 8 n.toNat, BitVec.ofNat 8 (n.toNat / 256)] := by
  rw [← wordOperandBytes_eq]
  cases p <;> rfl

/-- Settles O36: a write of a pair, a two-byte store and a copy of HL. -/
theorem sixteenBitLoads : Obligations.SixteenBitLoads := by
  refine fun s n a => ⟨fun p => ⟨encode_ldRRInstr p n, exec_instrOf (.ldRR p n) s⟩, wordOperandBytes_eq 0x08 a,
    fun h0 h1 => ?_, fun h0 => ?_, fun h0 h1 => ?_, rfl, rfl⟩
  · rw [← loByte_eq_ofNat, ← hiByte_eq_ofNat]
    exact exec_of_handler_eq_ok (x := .ldFarSP a) (writeWord_ok h0 h1)
  · exact exec_of_handler_eq_error (x := .ldFarSP a) (writeWord_error_first h0)
  · exact exec_of_handler_eq_error (x := .ldFarSP a) (writeWord_error_second h0 h1)

/-! ## PUSH and POP (R141, R142) -/

theorem push16_error_first {s : State} {v : Word} (h1 : ¬ inMemory s (s.sp - 1)) :
    push16 s v = .error (.outOfRange (s.sp - 1)) := by
  rw [push16, State.setSP_sp, writeByte_error (s := s.setSP (s.sp - 1)) h1, error_bind]

theorem push16_error_second {s : State} {v : Word} (h1 : inMemory s (s.sp - 1)) (h2 : ¬ inMemory s (s.sp - 2)) :
    push16 s v = .error (.outOfRange (s.sp - 2)) := by
  have hsp : s.sp - 1 - 1 = s.sp - 2 := by bv_omega
  rw [← hsp] at h2 ⊢
  rw [push16, State.setSP_sp, writeByte_ok (s := s.setSP (s.sp - 1)) h1, ok_bind]
  exact writeByte_error h2

theorem pop16_ok {s : State} (h0 : inMemory s s.sp) (h1 : inMemory s (s.sp + 1)) :
    pop16 s = .ok (popped s, { s with sp := s.sp + 2 }) := by
  have hsp : s.sp + 1 + 1 = s.sp + 2 := by bv_omega
  exact pop16_eq_ok.mpr ⟨h0, h1, (joinBytes_eq_ofNat _ _).symm, by rw [hsp]⟩

theorem pop16_error_first {s : State} (h0 : ¬ inMemory s s.sp) : pop16 s = .error (.outOfRange s.sp) := by
  rw [pop16, readByte_error h0, error_bind]

theorem pop16_error_second {s : State} (h0 : inMemory s s.sp) (h1 : ¬ inMemory s (s.sp + 1)) :
    pop16 s = .error (.outOfRange (s.sp + 1)) := by
  simp only [pop16, readByte_ok h0, ok_bind, State.setSP_sp, readByte_error (s := s.setSP (s.sp + 1)) h1, error_bind]

/-- A form that pushes and goes on from there. -/
theorem pushesThen_of_handler {x : Form} {s t : State} {v : Word} {k : State → Except Fault State}
    (h : handler x s = push16 s v >>= k) (hk : k (pushed s v) = .ok t) : PushesThen (instrOf x) s t := by
  refine ⟨fun h1 h2 => exec_of_handler_eq_ok ?_, fun h1 => exec_of_handler_eq_error ?_,
    fun h1 h2 => exec_of_handler_eq_error ?_⟩
  · rw [h, push16_ok h1 h2, ok_bind, hk]
  · rw [h, push16_error_first h1, error_bind]
  · rw [h, push16_error_second h1 h2, error_bind]

/-- A form that pops and goes on with the word popped. -/
theorem popsThen_of_handler {x : Form} {s t : State} {k : Word × State → Except Fault State}
    (h : handler x s = pop16 s >>= k) (hk : k (popped s, { s with sp := s.sp + 2 }) = .ok t) :
    PopsThen (instrOf x) s t := by
  refine ⟨fun h0 h1 => exec_of_handler_eq_ok ?_, fun h0 => exec_of_handler_eq_error ?_,
    fun h0 h1 => exec_of_handler_eq_error ?_⟩
  · rw [h, pop16_ok h0 h1, ok_bind, hk]
  · rw [h, pop16_error_first h0, error_bind]
  · rw [h, pop16_error_second h0 h1, error_bind]

/-- Settles O37: the push of the pair and nothing after it. -/
theorem pushStoresHighThenLow : Obligations.PushStoresHighThenLow := fun q =>
  ⟨by cases q <;> rfl, fun _ => pushesThen_of_handler (x := .push q) (bind_pure _).symm rfl⟩

theorem hiByte_popped (s : State) : hiByte (popped s) = peek s (s.sp + 1) := by
  rw [popped, ← joinBytes_eq_ofNat, hiByte_joinBytes]

theorem loByte_popped (s : State) : loByte (popped s) = peek s s.sp := by
  rw [popped, ← joinBytes_eq_ofNat, loByte_joinBytes]

/-- Settles O38: the pop, then the write of the pair, which splits the word into the two bytes read. -/
theorem popLoadsLowThenHigh : Obligations.PopLoadsLowThenHigh := by
  refine fun q => ⟨by cases q <;> rfl, fun s => popsThen_of_handler (x := .pop q) rfl (congrArg Except.ok ?_)⟩
  rw [← hiByte_popped, ← loByte_popped]
  cases q <;> rfl

end Sys2Proof.Machine
end

section
/-! SUPPORT. Control transfer (spec/45_control.md R143 to R157): the conditions and the two outcomes of a conditional
row, then the jumps, the calls and returns, and CALL followed by RET. -/

namespace Sys2Proof.Machine

/-! ## Conditions (R143, R144) -/

section
variable {k : Cond} {run : State → Except Fault State} {s : State}

theorem whenCond_of_condHolds (hk : condHolds s k = true) : whenCond k run s = run s := if_pos hk

/-- A conditional operation that raises no fault of its own raises none, and answers as its condition says. -/
theorem whenCond_of_eq_ok {t : State} (h : run s = .ok t) :
    whenCond k run s = .ok (if condHolds s k then t else s) := by
  rw [whenCond, h]
  exact (apply_ite Except.ok _ _ _).symm

/-- A row that is conditional on `k` does nothing when `k` is false (R144). -/
theorem exec_of_condHolds_eq_false {x : Form} (hx : handler x = whenCond k run) (hk : condHolds s k = false) :
    exec (instrOf x) s = .next s :=
  exec_of_handler_eq_ok (by rw [hx]; exact whenCond_eq_ok.mpr (.inr ⟨hk, rfl⟩))

end

/-- The four kinds of conditional row, one by one. -/
theorem exec_conditional_of_false {i : Instr} {s : State} {k : Cond} {e : Byte} {a : Word}
    (hi : i ∈ [jpCondInstr k a, jrCondInstr k e, callCondInstr k a, retCondInstr k]) (hk : condHolds s k = false) :
    exec i s = .next s := by
  simp only [List.mem_cons, List.not_mem_nil, or_false] at hi
  rcases hi with rfl | rfl | rfl | rfl
  · exact exec_of_condHolds_eq_false (x := .jpCond k a) rfl hk
  · exact exec_of_condHolds_eq_false (x := .jrCond k e) rfl hk
  · exact exec_of_condHolds_eq_false (x := .callCond k a) rfl hk
  · exact exec_of_condHolds_eq_false (x := .retCond k) rfl hk

/-- Settles O42: the step runs the row with PC past it, and PC is no flag. -/
theorem falseConditionOnlyAdvancesPC : Obligations.FalseConditionOnlyAdvancesPC :=
  fun _ _ _ _ _ hs hf hi hk => (step_of_fetch hs hf).trans (exec_conditional_of_false hi hk)

/-! ## Jumps (R146 to R150) -/

theorem encode_jpCondInstr (k : Cond) (a : Word) : encode (jpCondInstr k a) =
    [BitVec.ofNat 8 (0xC2 + 8 * codeCond k), BitVec.ofNat 8 a.toNat, BitVec.ofNat 8 (a.toNat / 256)] := by
  rw [← wordOperandBytes_eq]
  cases k <;> rfl

theorem encode_jrCondInstr (k : Cond) (e : Byte) :
    encode (jrCondInstr k e) = [BitVec.ofNat 8 (0x20 + 8 * codeCond k), e] := by
  cases k <;> rfl

/-- Settles O39: a jump writes PC, a conditional one when its condition holds. -/
theorem jumpsSetPC : Obligations.JumpsSetPC := by
  intro s a e
  rw [← add_sext16_eq_ofInt]
  exact ⟨wordOperandBytes_eq 0xC3 a, rfl, rfl, rfl, rfl, rfl, fun k =>
    ⟨encode_jpCondInstr k a, encode_jrCondInstr k e, by cases k <;> rfl,
      exec_of_handler_eq_ok (x := .jpCond k a) (whenCond_of_eq_ok rfl),
      exec_of_handler_eq_ok (x := .jrCond k e) (whenCond_of_eq_ok rfl)⟩⟩

/-! ## Calls and returns (R151 to R157) -/

theorem encode_callCondInstr (k : Cond) (a : Word) : encode (callCondInstr k a) =
    [BitVec.ofNat 8 (0xC4 + 8 * codeCond k), BitVec.ofNat 8 a.toNat, BitVec.ofNat 8 (a.toNat / 256)] := by
  rw [← wordOperandBytes_eq]
  cases k <;> rfl

theorem encode_rstInstr (t : Fin 8) : encode (rstInstr t) = [BitVec.ofNat 8 (0xC7 + 8 * t.val)] := by
  revert t; decide

theorem rstVector_eq (t : Fin 8) : rstVector t = BitVec.ofNat 16 (8 * t.val) := by
  rw [rstVector, Nat.mul_comm]

/-- A form whose handler calls `a` pushes PC_next and goes to `a`. -/
theorem pushesThen_of_call {x : Form} {s : State} {a : Word} (h : handler x s = call a s) :
    PushesThen (instrOf x) s { pushed s s.pc with pc := a } :=
  pushesThen_of_handler h rfl

/-- Settles O40: CALL, CALL cc with a true and with a false condition, and RST all run the shared call. -/
theorem callsPushTheReturnAddress : Obligations.CallsPushTheReturnAddress := fun _ a k t =>
  ⟨wordOperandBytes_eq 0xCD a, encode_callCondInstr k a, encode_rstInstr t,
    pushesThen_of_call (x := .call a) rfl,
    fun hk => pushesThen_of_call (x := .callCond k a) (whenCond_of_condHolds hk),
    fun hk => exec_of_condHolds_eq_false (x := .callCond k a) rfl hk,
    rstVector_eq t ▸ pushesThen_of_call (x := .rst t) rfl⟩

/-- A form whose handler returns pops PC. -/
theorem popsThen_of_ret {x : Form} {s : State} (h : handler x s = ret s) :
    PopsThen (instrOf x) s { s with sp := s.sp + 2, pc := popped s } :=
  popsThen_of_handler h rfl

/-- RETI is a pop followed by the writes of PC and IME (R156). -/
theorem retInterrupt_eq_bind (s : State) :
    retInterrupt s = pop16 s >>= fun x => .ok { x.2.setPC x.1 with ime := true } := by
  rw [retInterrupt, ret]
  cases pop16 s <;> rfl

/-- Settles O41: RET, RETI, then RET cc with a true and with a false condition. -/
theorem returnsPopPC : Obligations.ReturnsPopPC := fun s k =>
  ⟨rfl, rfl, by cases k <;> rfl, popsThen_of_ret (x := .ret) rfl,
    popsThen_of_handler (x := .reti) (retInterrupt_eq_bind s) rfl,
    fun hk => popsThen_of_ret (x := .retCond k) (whenCond_of_condHolds hk),
    fun hk => exec_of_condHolds_eq_false (x := .retCond k) rfl hk⟩

/-! ## CALL then RET (R154) -/

/-- PC_next is PC plus the number of bytes the fetched instruction is written in (R54, R67). -/
theorem next_of_fetch {s : State} {x : Fetched} (h : fetch s = .ok x) :
    x.next = s.pc + BitVec.ofNat 16 (encode x.instr).length := by
  obtain ⟨-, b1, b2, hi, ⟨hl, rfl, rfl, hn⟩ | ⟨hl, -, rfl, hn⟩ | ⟨hl, -, -, hn⟩⟩ := fetch_eq_ok h
  · rw [hn, hi, (encode_decodeBytes_one hl).2]; rfl
  · rw [hn, hi, (encode_decodeBytes_two hl b1).2]; rfl
  · rw [hn, hi, (encode_decodeBytes_three hl b1 b2).2]; rfl

/-- A pop reads memory, SP and MEM_SIZE alone, and writes SP alone (R45). -/
theorem pop16_of_agree {t u w : State} {v : Word} (h : pop16 t = .ok (v, w)) (hmem : u.mem = t.mem)
    (hsp : u.sp = t.sp) (hcfg : u.cfg = t.cfg) : pop16 u = .ok (v, { u with sp := w.sp }) := by
  obtain ⟨h0, h1, hv, rfl⟩ := pop16_eq_ok.mp h
  rw [← hsp, ← hcfg] at h0 h1
  rw [← hmem, ← hsp] at hv
  exact pop16_eq_ok.mpr ⟨h0, h1, hv, by rw [hsp]⟩

/-- RET in a state whose memory and stack are as a call left them goes to the call's PC_next, with its SP. -/
theorem ret_of_call {s t u : State} {a : Word} (hwf : Memory.wf s.mem = true) (hcall : call a s = .ok t)
    (hmem : u.mem = t.mem) (hsp : u.sp = t.sp) (hcfg : u.cfg = t.cfg) :
    ret u = .ok { u with pc := s.pc, sp := s.sp } := by
  obtain ⟨p, hpush, hp⟩ := bind_eq_ok.mp hcall
  obtain rfl : p.setPC a = t := Except.ok.inj hp
  have hpop := pushThenPopRestores s p s.pc hwf hpush
  rw [ret, pop16_of_agree hpop hmem hsp hcfg]; rfl

/-- Settles O43: the CALL pushed the address after its three bytes, and RET pops it. -/
theorem callThenReturnComesBack : Obligations.CallThenReturnComesBack := by
  intro s t u x a hwf hfetch hi hstep hmem hsp hcfg
  obtain ⟨-, y, hy, hrun⟩ := step_eq_next hstep
  obtain rfl : x = y := Except.ok.inj (hfetch.symm.trans hy)
  have hnext : x.next = s.pc + 3 := by rw [next_of_fetch hfetch, hi]; rfl
  rw [hi, hnext] at hrun
  exact exec_of_handler_eq_ok (x := .ret) (ret_of_call (s := s.setPC (s.pc + 3)) hwf hrun hmem hsp hcfg)

end Sys2Proof.Machine
end

section
/-! SUPPORT. NOP, the unimplemented and the reserved opcodes (spec/46_misc.md R158 to R163): the step of an opcode that
is an instruction of its own, the rows the reserved opcodes are read as, then the three statements. -/

namespace Sys2Proof.Machine

/-- An opcode of length 1 runs from its own byte alone: no address but PC has to lie in memory (R54, R67). -/
theorem step_of_length_one {s : State} {op : Byte} (hs : s.status = .running) (hin : inMemory s s.pc)
    (hop : peek s s.pc = op) (hl : instrLength op = 1) :
    step s = exec (decodeBytes op 0 0) { s with pc := s.pc + 1 } := by
  subst hop
  exact step_of_fetch hs (fetch_one hin hl)

/-- Settles O44: NOP's one byte is its opcode. -/
theorem nopOnlyAdvancesPC : Obligations.NopOnlyAdvancesPC :=
  ⟨rfl, fun _ => ⟨rfl, fun hs hin hop => step_of_length_one hs hin hop rfl⟩⟩

/-- The step of an unimplemented opcode of length 1 faults with it (R159, R161, R162). -/
theorem step_of_unimplemented {s : State} {op : Byte} (hs : s.status = .running) (hin : inMemory s s.pc)
    (hop : peek s s.pc = op) (hmem : op ∈ unimplementedOpcodes) (hl : instrLength op = 1) :
    step s = .fault (.unimplemented op) :=
  (step_of_length_one hs hin hop hl).trans (exec_unimplemented hmem 0 0 _)

section
variable {s : State} (hs : s.status = .running) (hin : inMemory s s.pc) (hop : peek s s.pc = 0x10)
include hin hop

/-- The fetch of STOP reads its operand byte after the opcode (R160). -/
theorem fetch_stop : fetch s = (readByte s (s.pc + 1) >>= fun n => .ok ⟨.stop n, s.pc + 2⟩) := by
  have hread : Memory.read s.mem s.pc.toNat = 0x10 := hop
  rw [fetch_two hin (by rw [hread]; rfl), hread]; rfl

include hs

theorem step_stop_inside (h1 : inMemory s (s.pc + 1)) : step s = .fault (.unimplemented 0x10) :=
  step_of_fetch (x := ⟨.stop (peek s (s.pc + 1)), s.pc + 2⟩) hs (by rw [fetch_stop hin hop, readByte_ok h1, ok_bind])

theorem step_stop_outside (h1 : ¬ inMemory s (s.pc + 1)) : step s = .fault (.outOfRange (s.pc + 1)) :=
  step_of_fetch_error hs (by rw [fetch_stop hin hop, readByte_error h1]; rfl)

end

/-- Settles O45: the four rows, then the steps of HALT, STOP with its operand inside and outside memory, DI and EI. -/
theorem unimplementedInstructionsFault : Obligations.UnimplementedInstructionsFault :=
  ⟨rfl, fun _ => rfl, rfl, rfl, fun _ => ⟨rfl, fun _ => rfl, rfl, rfl, fun hs hin =>
    ⟨fun hop => step_of_unimplemented hs hin hop (by decide) rfl,
      fun hop => step_stop_inside hs hin hop,
      fun hop => step_stop_outside hs hin hop,
      fun hop => step_of_unimplemented hs hin hop (by decide) rfl,
      fun hop => step_of_unimplemented hs hin hop (by decide) rfl⟩⟩⟩

/-- A reserved row is written as its opcode, which decodes to it (R62). -/
theorem exists_opcode_reservedInstr (x : Hole) :
    ∃ op ∈ reservedOpcodes, encode (reservedInstr x) = [op] ∧ decodeBytes op 0 0 = reservedInstr x := by
  cases x <;> exact ⟨_, by decide, rfl, rfl⟩

/-- A reserved opcode has no operand byte (R57, R62). -/
theorem instrLength_of_reserved : ∀ op ∈ reservedOpcodes, instrLength op = 1 := by decide

/-- Settles O46: each row by the opcode that decodes to it, then the step, which reads that byte alone. -/
theorem reservedOpcodesFault : Obligations.ReservedOpcodesFault := by
  refine ⟨fun x s => ?_, fun s op hmem hs hin hop => ?_⟩
  · obtain ⟨op, hmem, henc, hdec⟩ := exists_opcode_reservedInstr x
    exact ⟨op, hmem, henc, hdec ▸ exec_reserved hmem 0 0 s⟩
  · rw [step_of_length_one hs hin hop (instrLength_of_reserved op hmem)]
    exact exec_reserved hmem 0 0 _

end Sys2Proof.Machine
end

section
/-! SUPPORT. Exceptions (spec/60_exceptions.md R169, R170): the fetch that stops at its first byte outside memory, then
what a call of `step()` returns and leaves for each outcome of a step. -/

namespace Sys2Proof.Machine

/-! ## The first byte outside memory (R170) -/

section
variable {s : State}

theorem fetch_error_first (h0 : ¬ inMemory s s.pc) : fetch s = .error (.outOfRange s.pc) := by
  rw [fetch, readByte_error h0, error_bind]

/-- An instruction of two bytes and one of three both read the byte at PC + 1 next. -/
theorem fetch_error_second (h0 : inMemory s s.pc) (hl : 2 ≤ instrLength (peek s s.pc)) (h1 : ¬ inMemory s (s.pc + 1)) :
    fetch s = .error (.outOfRange (s.pc + 1)) := by
  rcases instrLength_cases (peek s s.pc) with h | h | h
  · omega
  · rw [fetch_two h0 h, readByte_error h1, error_bind]
  · rw [fetch_three h0 h, readByte_error h1, error_bind]

theorem fetch_error_third (h0 : inMemory s s.pc) (h1 : inMemory s (s.pc + 1)) (hl : instrLength (peek s s.pc) = 3)
    (h2 : ¬ inMemory s (s.pc + 2)) : fetch s = .error (.outOfRange (s.pc + 2)) := by
  rw [fetch_three h0 hl, readByte_ok h1, ok_bind, readByte_error h2, error_bind]

end

/-- Settles O8: from Running the step's fault is the fetch's, which stops at the first of its bytes outside memory. -/
theorem fetchReportsTheFirstByteOutside : Obligations.FetchReportsTheFirstByteOutside := fun _ hs =>
  ⟨fun h0 => step_of_fetch_error hs (fetch_error_first h0),
    fun h0 hl h1 => step_of_fetch_error hs (fetch_error_second h0 hl h1),
    fun h0 h1 hl h2 => step_of_fetch_error hs (fetch_error_third h0 h1 hl h2)⟩

/-! ## What a call of `step()` returns and leaves (R169, R185) -/

section
variable {s : State}

theorem hostStep_of_next {t : State} {x : Fetched} (hx : fetch s = .ok x) (h : step s = .next t) :
    hostStep s = (.ok (cycles x.instr s), t) := by
  simp only [hostStep, h, costAtPC, hx]

theorem hostStep_of_fault {f : Fault} (h : step s = .fault f) : hostStep s = (.fault f, s.takeFault f) := by
  simp only [hostStep, h]

theorem hostStep_of_refused {r : Refusal} (h : step s = .refused r) : hostStep s = (.refused r, s) := by
  simp only [hostStep, h]

/-- From Running a step is never refused: no meaning refuses (R28, R185). -/
theorem step_ne_refused_of_running (hs : s.status = .running) (r : Refusal) : step s ≠ .refused r := by
  rw [step_of_running hs]
  exact finish_ne_refused _ r

end

/-- Settles O9: from Running a step answers a next state, which a fetch came before, or a fault; from Faulted it is
refused. -/
theorem faultsAreTerminalAndPrecise : Obligations.FaultsAreTerminalAndPrecise := by
  refine fun s => ⟨fun hs => ?_, fun f hf => ⟨step_of_faulted hf, hostStep_of_refused (step_of_faulted hf)⟩⟩
  cases h : step s with
  | next t =>
    obtain ⟨-, x, hx, -⟩ := step_eq_next h
    exact .inl ⟨x, t, hx, rfl, hostStep_of_next hx h⟩
  | fault f => exact .inr ⟨f, rfl, hostStep_of_fault h⟩
  | refused r => exact absurd h (step_ne_refused_of_running hs r)

end Sys2Proof.Machine
end

section
/-! SUPPORT. The launch (spec/10_state.md R30, spec/70_reset_and_hazards.md R181, R186): the state before the loader
runs, then what the loader's writes in order do to a state, up to the first one outside memory. -/

namespace Sys2Proof.Machine

/-! ## Before the loader (R181) -/

/-- The state the launch hands to the loader: the launch registers over INITIAL_MEMORY. -/
def launchState (p : Launch) : State :=
  { a := p.a, f := p.f &&& 0xF0, b := p.b, c := p.c, d := p.d, e := p.e, h := p.h, l := p.l
    sp := p.sp, pc := p.pc, ime := false, mem := initialMemory p.cfg.memSize p.initial
    status := .running, cfg := p.cfg }

theorem launch_eq_loadAll (p : Launch) : launch p = loadAll (launchState p) p.program := rfl

theorem launchState_mem_wf (p : Launch) : Memory.wf (launchState p).mem = true := initialMemory_wf _ _

theorem launchState_inv {p : Launch} (hp : p.cfg.wf) : (launchState p).Inv where
  reservedLow := by simp [launchState, BitVec.and_assoc]
  config := hp
  canonical := launchState_mem_wf p
  bounded := initialMemory_bounded _ _

theorem read_launchState {p : Launch} {a : Nat} (h : a < p.cfg.memSize) :
    Memory.read (launchState p).mem a = initialByte p a :=
  read_initialMemory p.initial h

/-! ## The loader's writes in order (R186) -/

/-- Writes inside memory are all made before what follows them, and change nothing but memory. -/
theorem loadAll_append {s : State} {ws : List (Word × Byte)} (rest : List (Word × Byte))
    (h : ∀ x ∈ ws, x.1.toNat < s.cfg.memSize) :
    loadAll s (ws ++ rest) = loadAll { s with mem := Memory.writeAll s.mem ws } rest := by
  induction ws generalizing s with
  | nil => rfl
  | cons w ws ih =>
    obtain ⟨hw, hws⟩ := List.forall_mem_cons.mp h
    exact (loadAll_cons w.2 (ws ++ rest) hw).trans (ih hws)

theorem loadAll_ok {s : State} {ws : List (Word × Byte)} (h : ∀ x ∈ ws, x.1.toNat < s.cfg.memSize) :
    loadAll s ws = .ok { s with mem := Memory.writeAll s.mem ws } := by
  simpa [loadAll] using loadAll_append [] h

/-- The first write outside memory ends the loading, whatever stands after it. -/
theorem loadAll_outside {s : State} {pre : List (Word × Byte)} {a : Word} (v : Byte) (post : List (Word × Byte))
    (hpre : ∀ x ∈ pre, x.1.toNat < s.cfg.memSize) (ha : ¬ a.toNat < s.cfg.memSize) :
    loadAll s (pre ++ (a, v) :: post) = .error (.outOfRange a) :=
  (loadAll_append _ hpre).trans (loadAll_cons_outside v post ha)

theorem State.Inv.writeAll {s : State} {ws : List (Word × Byte)} (hs : s.Inv)
    (h : ∀ x ∈ ws, x.1.toNat < s.cfg.memSize) : State.Inv { s with mem := Memory.writeAll s.mem ws } := by
  induction ws generalizing s with
  | nil => exact hs
  | cons w ws ih =>
    obtain ⟨hw, hws⟩ := List.forall_mem_cons.mp h
    exact ih (hs.write w.2 hw) hws

/-! ## The launch -/

/-- The byte at an address after the loader's writes: the last one written there, else INITIAL_MEMORY's. -/
theorem read_launchState_writeAll (p : Launch) {a : Nat} (h : a < p.cfg.memSize) :
    Memory.read (Memory.writeAll (launchState p).mem p.program) a =
      (lastWritten a p.program).getD (initialByte p a) := by
  rw [Memory.read_writeAll _ _ _ (launchState_mem_wf p), read_launchState h]

/-- Settles O49: the loader's writes over the launch state, which the first write outside memory stops. -/
theorem launchGivesTheLaunchValues : Obligations.LaunchGivesTheLaunchValues := by
  intro p hp
  constructor
  · intro hin
    exact ⟨_, loadAll_ok hin, (launchState_inv hp).writeAll hin, rfl, rfl, rfl, rfl, rfl, rfl, rfl, rfl, rfl, rfl, rfl,
      rfl, rfl, fun _ ha => read_launchState_writeAll p ha⟩
  · intro pre a v post hprogram hpre ha
    rw [launch_eq_loadAll, hprogram]
    exact loadAll_outside v post hpre ha

end Sys2Proof.Machine
end
